-- ==== Sys2Proof/Word.lean ====
section
/-! DEFINITION. The word types of the block: one name for each fixed width the spec gives (R13, R47).

Quantities whose width is the open parameter `TICK_WIDTH` (the tick counter, timestamps, marks) are natural
numbers kept below `2 ^ TICK_WIDTH`: every operation that makes one reduces it modulo `2 ^ TICK_WIDTH` (R34). Log
entry 6. -/

namespace Sys2Proof

/-- A stimulus word: 32 bits (R77, R81). -/
abbrev StimWord := BitVec 32

/-- The argument field of a stimulus word: bits 15:0 (R77). -/
abbrev Arg := BitVec 16

/-- A command frame: 16 bits (R63). -/
abbrev Frame := BitVec 16

/-- One hardware compare value, `DUTY_WIDTH` = 16 bits (R47, R67). -/
abbrev Duty := BitVec 16

/-- A 32-bit field of the Telemetry Record and a session counter, `COUNTER_WIDTH` = 32 (R37, R40). -/
abbrev Reg32 := BitVec 32

/-- A 4-bit value (R19). -/
abbrev Nibble := BitVec 4

/-- A 5-bit GCR code (R19). -/
abbrev Symbol := BitVec 5

/-- The 3-bit code of a protocol state (R23). -/
abbrev StateCode := BitVec 3

end Sys2Proof
end

