-- ==== Sys2Proof/Syntax.lean ====
section
/-! DEFINITION. The stimuli of the block: one constructor of `Instr` for each row of the operation map (R78), that is
for each row of spec/opcode_table.json. -/

namespace Sys2Proof

/-- The agents of the block, each of which takes atomic steps (R9). -/
inductive Agent where
  /-- The foreground caller, issuing host operations. -/
  | host
  /-- The asynchronous completion-callback context. -/
  | callback
  /-- The Transmit Driver hardware. -/
  | txd
  /-- The Telemetry Capture hardware. -/
  | cap
  /-- The free-running tick source. -/
  | tick
  /-- The environment, producing line edges. -/
  | esc
  deriving DecidableEq, Repr

/-- The stimuli: eight host operations and five hardware events (R78). -/
inductive Instr where
  /-- INIT, op 0x0 (R127). -/
  | init
  /-- THROTTLE v, op 0x1 (R129). -/
  | throttle (v : Arg)
  /-- COMMAND c, op 0x2 (R130). -/
  | command (c : Arg)
  /-- READY, op 0x3 (R132). -/
  | ready
  /-- GETSTATE, op 0x4 (R133). -/
  | getstate
  /-- GETTELEM, op 0x5 (R134). -/
  | gettelem
  /-- POLLNEW, op 0x6 (R135). -/
  | pollnew
  /-- ADVANCE, op 0x7 (R136). -/
  | advance
  /-- TXSLOT, op 0x8 (R95). -/
  | txslot
  /-- TXDONE, op 0x9 (R140). -/
  | txdone
  /-- CAPFULL, op 0xA (R141). -/
  | capfull
  /-- EDGE, op 0xB (R102). -/
  | edge
  /-- TICK k, op 0xC (R142). -/
  | tick (k : Arg)
  deriving DecidableEq, Repr

/-- The agents that take the step of a stimulus: the agent column of R78 (EDGE is the ESC's and the capture
hardware's). No step checks it (log entry 12). -/
def Instr.agents : Instr → List Agent
  | .init => [.host]
  | .throttle _ => [.host]
  | .command _ => [.host]
  | .ready => [.host]
  | .getstate => [.host]
  | .gettelem => [.host]
  | .pollnew => [.host]
  | .advance => [.host]
  | .txslot => [.txd]
  | .txdone => [.callback]
  | .capfull => [.callback]
  | .edge => [.esc, .cap]
  | .tick _ => [.tick]

end Sys2Proof
end

