-- ==== Sys2Proof/WellFormed.lean ====
section
/-! DEFINITION. Well-formedness of a stimulus: the one operand constraint of R78, that a TICK count is 1..65535. -/

namespace Sys2Proof

/-- A stimulus the encoding admits: the argument column of R78. The 16-bit width of `v`, `c` and `k` is in their
types; `k = 0` is illegal (R80). -/
def Instr.wellFormed : Instr → Bool
  | .init => true
  | .throttle _ => true
  | .command _ => true
  | .ready => true
  | .getstate => true
  | .gettelem => true
  | .pollnew => true
  | .advance => true
  | .txslot => true
  | .txdone => true
  | .capfull => true
  | .edge => true
  | .tick k => k != 0#16

end Sys2Proof
end

