-- ==== Sys2Proof/Decode.lean ====
section
/-! DEFINITION. The decoder of stimulus words (R77, R78, R80), total on every 32-bit word and rejecting by name; then
the encoder (R82) and the operation map as a table of masks and patterns. -/

namespace Sys2Proof

/-- Why a stimulus word is reserved or illegal (R80). Where several hold, the one given is the first the decoder meets:
`rsv`, then `op`, then `arg` (DESIGN CHOICE, log entry 16). -/
inductive Reject where
  /-- `op` is 0xD, 0xE or 0xF. -/
  | reservedOp (op : BitVec 4)
  /-- `rsv`, bits 27:16, is not 0. -/
  | reservedField (rsv : BitVec 12)
  /-- `arg` is not 0 for an operation that takes none. -/
  | nonzeroArg (arg : Arg)
  /-- TICK with `arg` = 0. -/
  | tickZero
  deriving DecidableEq, Repr

/-- `op` = bits 31:28 (R77). -/
def opField (w : StimWord) : BitVec 4 := w.extractLsb' 28 4

/-- `rsv` = bits 27:16 (R77). -/
def rsvField (w : StimWord) : BitVec 12 := w.extractLsb' 16 12

/-- `arg` = bits 15:0 (R77). -/
def argField (w : StimWord) : Arg := w.extractLsb' 0 16

/-- An operation that takes no argument: `arg` must be 0 (R77, R80). -/
def withoutArg (i : Instr) (arg : Arg) : Except Reject Instr :=
  if arg = 0#16 then .ok i else .error (.nonzeroArg arg)

/-- The operation map (R78) on the fields of a word whose `rsv` is 0. -/
def decodeFields (op : BitVec 4) (arg : Arg) : Except Reject Instr :=
  match op.toNat with
  | 0x0 => withoutArg .init arg
  | 0x1 => .ok (.throttle arg)
  | 0x2 => .ok (.command arg)
  | 0x3 => withoutArg .ready arg
  | 0x4 => withoutArg .getstate arg
  | 0x5 => withoutArg .gettelem arg
  | 0x6 => withoutArg .pollnew arg
  | 0x7 => withoutArg .advance arg
  | 0x8 => withoutArg .txslot arg
  | 0x9 => withoutArg .txdone arg
  | 0xA => withoutArg .capfull arg
  | 0xB => withoutArg .edge arg
  | 0xC => if arg = 0#16 then .error .tickZero else .ok (.tick arg)
  | _ => .error (.reservedOp op)

/-- Decode a stimulus word: match `op`, check `rsv` = 0 and the argument constraint (R78, R80). -/
def decode (w : StimWord) : Except Reject Instr :=
  if rsvField w = 0#12 then decodeFields (opField w) (argField w) else .error (.reservedField (rsvField w))

/-- The instruction the decoder reads from the 32-bit word whose low `nbits` bits are those of `w` and whose other
bits are 0. The block stores no bytes (R48): a stimulus is one 32-bit word, so there is no byte order to lay out. -/
def decodeTableWord (nbits w : Nat) : Option Instr :=
  match decode (BitVec.ofNat 32 (w % 2 ^ nbits)) with
  | .ok i => some i
  | .error _ => none

/-- The operation code of a stimulus (R78). -/
def Instr.op : Instr → BitVec 4
  | .init => 0x0#4
  | .throttle _ => 0x1#4
  | .command _ => 0x2#4
  | .ready => 0x3#4
  | .getstate => 0x4#4
  | .gettelem => 0x5#4
  | .pollnew => 0x6#4
  | .advance => 0x7#4
  | .txslot => 0x8#4
  | .txdone => 0x9#4
  | .capfull => 0xA#4
  | .edge => 0xB#4
  | .tick _ => 0xC#4

/-- The argument of a stimulus, 0 where it takes none (R77). -/
def Instr.arg : Instr → Arg
  | .throttle v => v
  | .command c => c
  | .tick k => k
  | .init => 0#16
  | .ready => 0#16
  | .getstate => 0#16
  | .gettelem => 0#16
  | .pollnew => 0#16
  | .advance => 0#16
  | .txslot => 0#16
  | .txdone => 0#16
  | .capfull => 0#16
  | .edge => 0#16

/-- The word of a stimulus: `op << 28 | arg`, that is `op : 0 : arg` (R77, R82). -/
def encode (i : Instr) : StimWord := i.op ++ 0#12 ++ i.arg

/-- One row of the operation map as a mask and a pattern (R78, spec/opcode_table.json). -/
structure OpRow where
  /-- The row's mnemonic. -/
  mnemonic : String
  /-- The bits the row fixes. -/
  mask : StimWord
  /-- Their values. -/
  pattern : StimWord
  deriving DecidableEq, Repr

/-- The operation map: the masks and patterns of R78. -/
def opTable : List OpRow :=
  [ ⟨"INIT", 0xFFFFFFFF#32, 0x00000000#32⟩
  , ⟨"THROTTLE", 0xFFFF0000#32, 0x10000000#32⟩
  , ⟨"COMMAND", 0xFFFF0000#32, 0x20000000#32⟩
  , ⟨"READY", 0xFFFFFFFF#32, 0x30000000#32⟩
  , ⟨"GETSTATE", 0xFFFFFFFF#32, 0x40000000#32⟩
  , ⟨"GETTELEM", 0xFFFFFFFF#32, 0x50000000#32⟩
  , ⟨"POLLNEW", 0xFFFFFFFF#32, 0x60000000#32⟩
  , ⟨"ADVANCE", 0xFFFFFFFF#32, 0x70000000#32⟩
  , ⟨"TXSLOT", 0xFFFFFFFF#32, 0x80000000#32⟩
  , ⟨"TXDONE", 0xFFFFFFFF#32, 0x90000000#32⟩
  , ⟨"CAPFULL", 0xFFFFFFFF#32, 0xA0000000#32⟩
  , ⟨"EDGE", 0xFFFFFFFF#32, 0xB0000000#32⟩
  , ⟨"TICK", 0xFFFF0000#32, 0xC0000000#32⟩ ]

/-- A word matches a row when the bits the row fixes have the row's values. -/
def OpRow.covers (row : OpRow) (w : StimWord) : Bool := w &&& row.mask == row.pattern

end Sys2Proof
end

