-- ==== Sys2Proof/Config.lean ====
section
/-! DEFINITION. The configuration record `CFG` of R10, its well-formedness, and the values the spec leaves free.

`CFG` is no state of the block (R45): it is fixed for the machine. A machine carries it in `State.cfg`, which no step
writes, so that one model covers every configuration: a statement about every state is a statement about every
well-formed configuration. -/

namespace Sys2Proof

/-- What the run-length cap does with a run above `MAX_RUN` (`RUN_CAP_MODE`, R10, R112). -/
inductive RunCapMode where
  /-- Limit the run to `MAX_RUN` (the default). -/
  | clamp
  /-- Fail the decode with `GAP_TOO_LONG`. -/
  | reject
  deriving DecidableEq, Repr, Inhabited

/-- The configuration record `CFG` (R10). A field with a default value has the default the spec gives; a field
without one is OPEN. The fixed-value rows of R10 (`FRAME_BITS` and the like) are the constants of
`Sys2Proof/Machine/Params.lean`. -/
structure Config where
  /-- `TICK_WIDTH`: width `W` of the tick counter and of timestamps. OPEN. -/
  tickWidth : Nat
  /-- `TICK_HZ`: tick rate, used only to derive the default of `RX_BIT_TICKS`. OPEN. -/
  tickHz : Nat
  /-- `CMD_BITRATE`: command bit rate. OPEN. -/
  cmdBitrate : Nat
  /-- `RX_RATIO`, numerator: response over command bit rate. -/
  rxRatioNum : Nat := 5
  /-- `RX_RATIO`, denominator. -/
  rxRatioDen : Nat := 4
  /-- `RX_BIT_TICKS`: nominal response bit period `P` in ticks; its default is `Config.defaultRxBitTicks`. -/
  rxBitTicks : Nat
  /-- `MAX_RUN`: run-length cap in bits. -/
  maxRun : Nat := 5
  /-- `RUN_CAP_MODE`. -/
  runCapMode : RunCapMode := .clamp
  /-- `INITIAL_LEVEL`: the level assigned to the first edge interval (true is 1). -/
  initialLevel : Bool := true
  /-- `EDGE_CAP`: capacity of the edge buffer. -/
  edgeCap : Nat := 32
  /-- `EDGE_TARGET`: edge count that ends capture early. OPEN. -/
  edgeTarget : Nat
  /-- `RESPONSE_DELAY_TICKS`: minimum wait before arming capture. OPEN. -/
  responseDelayTicks : Nat
  /-- `RX_TIMEOUT_TICKS`: maximum capture window. OPEN. -/
  rxTimeoutTicks : Nat
  /-- `MOTOR_POLES`: motor pole count. OPEN. -/
  motorPoles : Nat
  /-- `DUTY_FULL`: compare value of a full-level slot. OPEN. -/
  dutyFull : Duty
  /-- `DUTY_ZERO`: true pulse width of a 0 bit. OPEN. -/
  dutyZero : Duty
  /-- `DUTY_ONE`: true pulse width of a 1 bit. OPEN. -/
  dutyOne : Duty
  /-- `INVERTED`: bidirectional (inverted-line) mode. -/
  inverted : Bool := true
  /-- `GCR_TABLE`: entry `s` is the nibble of symbol `s`, `none` the sentinel `Invalid` (R73). -/
  gcrTable : List (Option Nibble)
  deriving DecidableEq, Repr, Inhabited

/-- The constraint on a GCR table (R73): exactly 32 entries, injective on the valid ones. -/
abbrev GcrTableOk (t : List (Option Nibble)) : Prop :=
  t.length = 32 ∧ t.Pairwise (fun a b => a = none ∨ a ≠ b)

/-- Well-formedness of a configuration: the constraints of R10 and R90, in the table's order. -/
abbrev Config.WF (c : Config) : Prop :=
  (8 ≤ c.tickWidth ∧ c.tickWidth ≤ 32) ∧
  2 ≤ c.rxBitTicks ∧
  1 ≤ c.maxRun ∧
  (2 ≤ c.edgeCap ∧ c.edgeCap ≤ 32) ∧
  (2 ≤ c.edgeTarget ∧ c.edgeTarget ≤ c.edgeCap) ∧
  c.responseDelayTicks < 2 ^ c.tickWidth ∧
  c.rxTimeoutTicks < 2 ^ c.tickWidth ∧
  (1 ≤ c.motorPoles ∧ c.motorPoles < 2 ^ 32) ∧
  (1 ≤ c.dutyFull.toNat ∧ c.dutyZero.toNat < c.dutyOne.toNat ∧ c.dutyOne.toNat ≤ c.dutyFull.toNat) ∧
  GcrTableOk c.gcrTable

/-- A configuration that meets R10. A configuration that breaks R10 "is refused": it is no value of this type, so no
machine has it. -/
abbrev ValidConfig := { c : Config // c.WF }

/-- Admit a configuration, or refuse it (R10, R73, R90). -/
def Config.accept (c : Config) : Option ValidConfig :=
  if h : c.WF then some ⟨c, h⟩ else none

/-- The default of `RX_BIT_TICKS`: `floor(TICK_HZ / (CMD_BITRATE * RX_RATIO))` (R10, R110).
No rule forces the field to this value (log entry 14). -/
def Config.defaultRxBitTicks (c : Config) : Nat :=
  c.tickHz * c.rxRatioDen / (c.cmdBitrate * c.rxRatioNum)

/-- FREE VALUE. The configuration the platform fixes. Ten of its parameters are OPEN (R10, U12): the source gives
them no value and none is chosen, so this is an uninterpreted constant. DESIGN CHOICE, log entry 2. -/
opaque Config.platformRaw : Config

/-- FREE VALUE. The capability-setup result `INIT_OK` drawn by an INIT for which the environment has supplied no
answer in `State.initAnswers`: one value per draw number, about which nothing is known (R11, U11). DESIGN
CHOICE, log entry 3. -/
opaque Config.initOk : Nat → Bool

end Sys2Proof
end

