-- ==== Sys2Proof/Machine/Params.lean ====
section
/-! DEFINITION. The fixed parameters of R10, the default GCR table (R74), the test-vector configuration TVC (R12) and
the configuration of the platform. -/

namespace Sys2Proof.Machine

/-- `PAYLOAD_MAX`, the clamp bound: 2047 = 2^11 - 1 (R10). -/
abbrev payloadMax : Nat := 2047

/-- `FRAME_BITS`: command frame width (R10). -/
abbrev frameBits : Nat := 16

/-- `DUTY_LEN` = `FRAME_BITS` + 1: the length of a duty sequence (R10). -/
abbrev dutyLen : Nat := 17

/-- `TELEM_BITS`: telemetry bits accumulated (R10). -/
abbrev telemBits : Nat := 21

/-- `TELEM_MIN_BITS`: telemetry bits required (R10). -/
abbrev telemMinBits : Nat := 20

/-- `ERPM_CONST`: the eRPM numerator (R10). -/
abbrev erpmConst : Nat := 60000000

/-- The default GCR table (R74), entry `s` at index `s`. The spec supplies it from general knowledge (G2): a machine
takes its table from `Config.gcrTable`. PRESUMED, log entry 10. -/
def defaultGcrTable : List (Option Nibble) :=
  [ none, none, none, none, none, none, none, none
  , none, some 0x9#4, some 0xA#4, some 0xB#4, none, some 0xD#4, some 0xE#4, some 0xF#4
  , none, none, some 0x2#4, some 0x3#4, none, some 0x5#4, some 0x6#4, some 0x7#4
  , none, some 0x0#4, some 0x8#4, some 0x1#4, none, some 0x4#4, some 0xC#4, none ]

/-- The test-vector configuration TVC (R12). Its values are the spec's own, chosen for arithmetic clarity: no hardware
has them. `TICK_HZ` and `CMD_BITRATE`, which R12 does not give, are set so that the default of `RX_BIT_TICKS` (R10) is
TVC's value 10; no rule but that default reads them. DESIGN CHOICE, log entry 10. -/
def tvc : Config where
  tickWidth := 16
  tickHz := 100
  cmdBitrate := 8
  rxBitTicks := 10
  edgeTarget := 32
  responseDelayTicks := 30
  rxTimeoutTicks := 400
  motorPoles := 14
  dutyFull := 40#16
  dutyZero := 15#16
  dutyOne := 30#16
  gcrTable := defaultGcrTable

/-- TVC meets R10. -/
theorem tvc_wf : tvc.WF := by decide

/-- TVC as an admitted configuration. -/
def tvcValid : ValidConfig := ⟨tvc, tvc_wf⟩

/-- The configuration of the machine at reset: whatever well-formed configuration the platform fixes. The fallback
only makes the constant a value of `ValidConfig`; a platform value that breaks R10 is refused by the spec. DESIGN CHOICE,
log entry 2. -/
def platform : ValidConfig :=
  (Config.platformRaw.accept).getD tvcValid

end Sys2Proof.Machine
end

