-- ==== Sys2Proof/Machine/Operands.lean ====
section
/-! DEFINITION. The operand forms of the stimuli and of the internal operations: the clamped request value, the
telemetry flag, tick arithmetic modulo `2 ^ W`, nibbles of a 12-bit value, and zero extension of responses. -/

namespace Sys2Proof.Machine

/-- CLAMP (R84): the request value saturated to `PAYLOAD_MAX`, an 11-bit payload. There is no lower clamp. -/
def clamp (v : Arg) : BitVec 11 := BitVec.ofNat 11 (min v.toNat payloadMax)

/-- The telemetry-request flag as frame bit 4: 1 on the throttle path, 0 on the command path (R63). -/
def telemBit (telem : Bool) : BitVec 1 := BitVec.ofBool telem

/-- CSUM12 (R85): the XOR of the three nibbles of a 12-bit value, not inverted (R64, R71). -/
def csum12 (u : BitVec 12) : Nibble := u.extractLsb' 8 4 ^^^ u.extractLsb' 4 4 ^^^ u.extractLsb' 0 4

/-- `a +_W k`: advance a tick value by `k` modulo `2 ^ W` (R34, R142). -/
def tickAdd (w : Nat) (a k : Nat) : Nat := (a + k) % 2 ^ w

/-- DELTA (R111) and `b -_W a` (R14): the difference of two tick values modulo `2 ^ W`, with the full counter range
added when the later one is numerically smaller. -/
def tickDelta (w : Nat) (a b : Nat) : Nat := if b < a then (b + 2 ^ w) - a else b - a

/-- A 1-bit response value zero-extended to 32 bits (R79). -/
def zextBool (b : Bool) : BitVec 32 := (BitVec.ofBool b).setWidth 32

/-- A state code zero-extended to 32 bits (R79). -/
def zextState (c : StateCode) : BitVec 32 := c.setWidth 32

end Sys2Proof.Machine
end

