-- ==== Sys2Proof/Machine/FrameEncoder.lean ====
section
/-! DEFINITION. The Frame Encoder (40_frame_encoder.md): ENCODE and DUTYMAP, pure functions of the configuration. -/

namespace Sys2Proof.Machine

/-- ENCODE (R86): payload, flag and checksum, most significant first (R63). -/
def encodeFrame (v : Arg) (telem : Bool) : Frame :=
  let u : BitVec 12 := clamp v ++ telemBit telem
  u ++ csum12 u

/-- The fields of a frame (R63): bits 15:4, over which the checksum is computed. -/
def frameUpper (f : Frame) : BitVec 12 := f.extractLsb' 4 12

/-- The payload field, frame bits 15:5 (R63). -/
def framePayload (f : Frame) : BitVec 11 := f.extractLsb' 5 11

/-- The telemetry-request flag, frame bit 4 (R63). -/
def frameTelem (f : Frame) : Bool := f.getLsbD 4

/-- The checksum field, frame bits 3:0 (R63). -/
def frameCsum (f : Frame) : Nibble := f.extractLsb' 0 4

/-- A well-formed frame (R66): its checksum field is CSUM12 of its upper 12 bits. -/
def frameOk (f : Frame) : Bool := frameCsum f == csum12 (frameUpper f)

/-- `ZERO_VAL` (R87): the compare value of a 0 bit. -/
def zeroVal (c : Config) : Duty := if c.inverted then c.dutyFull - c.dutyZero else c.dutyZero

/-- `ONE_VAL` (R87): the compare value of a 1 bit. -/
def oneVal (c : Config) : Duty := if c.inverted then c.dutyFull - c.dutyOne else c.dutyOne

/-- `IDLE_VAL` (R87, R89): the trailing idle entry, and the value the line holds between frames. -/
def idleVal (c : Config) : Duty := if c.inverted then c.dutyFull else 0#16

/-- The compare value of one frame bit (R88). -/
def bitVal (c : Config) (b : Bool) : Duty := if b then oneVal c else zeroVal c

/-- DUTYMAP (R88): one entry for each frame bit, most significant first, then the idle entry. -/
def dutyMap (c : Config) (f : Frame) : List Duty :=
  (List.range frameBits).map (fun i => bitVal c (f.getLsbD (frameBits - 1 - i))) ++ [idleVal c]

end Sys2Proof.Machine
end

