-- ==== Sys2Proof/Machine/State.lean ====
section
/-! DEFINITION. The state of the machine: the engine context `R` of 10_state.md, field by field, and beside it what a
machine needs to be stepped (its configuration, the stimuli presented to it, the answers of the platform to INIT, the
response of the last step). Plain data throughout. -/

namespace Sys2Proof.Machine

/-- The role of the one physical line (R26). -/
inductive Link where
  /-- 0: drive compare-output. -/
  | output
  /-- 1: capture mode. -/
  | input
  deriving DecidableEq, Repr

/-- Idle, code 0 (R23). -/
abbrev stIdle : StateCode := 0#3
/-- Sending, code 1 (R23). -/
abbrev stSending : StateCode := 1#3
/-- AwaitingResponse, code 2 (R23). -/
abbrev stAwaiting : StateCode := 2#3
/-- Receiving, code 3 (R23). -/
abbrev stReceiving : StateCode := 3#3
/-- Decoding, code 4 (R23). -/
abbrev stDecoding : StateCode := 4#3

/-- The block state `R` (R22 to R41), one field for each row of the summary table of 10_state.md. -/
structure Engine where
  /-- 1 once INIT has succeeded (R25). -/
  configured : Bool
  /-- The protocol state code, 3 bits (R22, R23). -/
  state : StateCode
  /-- The role of the line (R26). -/
  link : Link
  /-- The last command frame built (R28). -/
  frame : Frame
  /-- The Duty Sequence, 17 entries of 16 bits (R28). -/
  duty : List Duty
  /-- 1 while the Transmit Driver streams `duty` (R29). -/
  txActive : Bool
  /-- The index of the next duty entry, 5 bits, 0..17 (R29). -/
  txIndex : BitVec 5
  /-- The compare value applied to the line (R29). -/
  cmpOut : Duty
  /-- The transmit-complete event, raised and not yet handled (R30). -/
  txDonePending : Bool
  /-- 1 while the capture hardware accepts edges (R31). -/
  capArmed : Bool
  /-- The remaining capacity of the capture, 6 bits, 0..EDGE_CAP (R31). -/
  capRemaining : BitVec 6
  /-- The Edge Timestamp Buffer, EDGE_CAP entries of W bits (R32). -/
  edgeBuf : List Nat
  /-- The buffer-full event, raised and not yet handled (R33). -/
  capFullPending : Bool
  /-- The tick counter, W bits (R34). -/
  tick : Nat
  /-- The tick of the last entry into AwaitingResponse or Receiving, W bits (R35). -/
  tMark : Nat
  /-- Electrical RPM (R36, R37). -/
  erpm : Reg32
  /-- Mechanical RPM (R36, R37). -/
  mrpm : Reg32
  /-- The validity flag (R38). -/
  valid : Bool
  /-- The tick of the last successful decode, W bits (R39). -/
  lastUpdate : Nat
  /-- Session counter: frames sent (R40). -/
  framesSent : Reg32
  /-- Session counter: successful decodes (R40). -/
  decodeOk : Reg32
  /-- Session counter: failed decodes (R40). -/
  decodeFail : Reg32
  /-- The new-data flag (R41). -/
  newData : Bool
  deriving DecidableEq, Repr

/-- The Telemetry Record as GETTELEM returns it: the 7-tuple of R79. -/
structure TelemetryRecord where
  erpm : Reg32
  mrpm : Reg32
  valid : Bool
  lastUpdate : Nat
  framesSent : Reg32
  decodeOk : Reg32
  decodeFail : Reg32
  deriving DecidableEq, Repr

/-- The Telemetry Record held in the block state (R36). -/
def Engine.record (r : Engine) : TelemetryRecord :=
  ⟨r.erpm, r.mrpm, r.valid, r.lastUpdate, r.framesSent, r.decodeOk, r.decodeFail⟩

/-- The response of one step (R79). -/
inductive Response where
  /-- THROTTLE, COMMAND, ADVANCE and the events return nothing. -/
  | nothing
  /-- INIT, READY, POLLNEW and GETSTATE return a value zero-extended to 32 bits. -/
  | word (w : BitVec 32)
  /-- GETTELEM returns the Telemetry Record. -/
  | record (t : TelemetryRecord)
  deriving DecidableEq, Repr

/-- The faults of R151: states the chip does not reach. Each is safe (the spec marks it exact): the machine stops where
the spec raises the fault. -/
inductive Fault where
  /-- `BadState`: the state register holds code 5, 6 or 7. Raised by ADVANCE (R136) and GETSTATE (R23, R76). Safe. -/
  | badState
  /-- `LinkBusy`: SWITCH_TO_INPUT while the transmitter is active. Raised by ADVANCE in AwaitingResponse (R99). Safe. -/
  | linkBusy
  /-- `IndexFault`: a buffer index out of range. Raised by TXSLOT, EDGE and the decode step (R47). Safe. -/
  | indexFault
  deriving DecidableEq, Repr

/-- The refusals: the stimulus has no meaning in this state and changes none (R18, R151). Each is safe: no claim about
a next state can be proved of a refused stimulus. -/
inductive Refusal where
  /-- An instruction the model gives no meaning; no arm of `exec` uses it. Safe. -/
  | notModelled (mnemonic : String)
  /-- `NotConfigured`: any stimulus but INIT, TICK and EDGE before a successful INIT (R126). Safe. -/
  | notConfigured
  /-- `AlreadyConfigured`: INIT after a successful INIT (R127). Safe. -/
  | alreadyConfigured
  /-- `NotEnabled`: TXSLOT with no transmission in progress, TXDONE or CAPFULL with its event not pending
  (R95, R140, R141). Safe, and exact: the hardware has no such step. -/
  | notEnabled
  /-- `Reserved`: a stimulus word of R80, with the reason. Raised by `step`, and by TICK 0. Safe. -/
  | reserved (why : Reject)
  /-- No stimulus is presented: no agent takes a step (stuck, R18). Raised by `step` only. Safe. -/
  | noStimulus
  deriving DecidableEq, Repr

/-- The state of the machine. `r` is all the state the spec gives the block; the other fields are the model's own. -/
structure State where
  /-- The configuration (R10). No step writes it. -/
  cfg : ValidConfig
  /-- The block state `R`. -/
  r : Engine
  /-- The stimuli presented to the block, next first: the interleaving of the agents' steps (R56) as plain data. Log entries 1
  and 12. -/
  stimuli : List StimWord
  /-- The platform's answers to the next INITs, first one first: supplied draws of `INIT_OK` (R11). Log
  entry 3. -/
  initAnswers : List Bool
  /-- How many draws of `INIT_OK` were taken from the free value `Config.initOk`. Log entry 3. -/
  initDraws : Nat
  /-- The response of the last step (R79). Log entry 5. -/
  response : Response
  deriving DecidableEq, Repr

/-- The machine at reset: power-on, before any INIT (R164). `configured` is 0, as R164 says. Every other field of `R`
is unspecified there; each holds the value the spec's own reset column gives it (R165), and `tick`, which has none,
holds 0. DESIGN CHOICE, log entry 4. Nothing is presented to the block, and the configuration is the platform's. -/
def State.reset : State where
  cfg := platform
  r :=
    { configured := false
      state := stIdle
      link := .output
      frame := 0#16
      duty := List.replicate dutyLen (idleVal platform.val)
      txActive := false
      txIndex := 0#5
      cmpOut := idleVal platform.val
      txDonePending := false
      capArmed := false
      capRemaining := BitVec.ofNat 6 platform.val.edgeCap
      edgeBuf := List.replicate platform.val.edgeCap 0
      capFullPending := false
      tick := 0
      tMark := 0
      erpm := 0#32
      mrpm := 0#32
      valid := false
      lastUpdate := 0
      framesSent := 0#32
      decodeOk := 0#32
      decodeFail := 0#32
      newData := false }
  stimuli := []
  initAnswers := []
  initDraws := 0
  response := .nothing

end Sys2Proof.Machine
end

