-- ==== Sys2Proof/Machine/Flags.lean ====
section
/-! DEFINITION. The flags of the block (R42): the conditions that enable a stimulus, read from them, and the operations
that set and clear them. The block has no arithmetic condition codes. -/

namespace Sys2Proof.Machine

/-- TXSLOT is enabled (R95): a transmission is in progress. -/
def Engine.txSlotEnabled (r : Engine) : Bool := r.txActive

/-- TXDONE is enabled (R140): the transmit-complete event is pending. -/
def Engine.txDoneEnabled (r : Engine) : Bool := r.txDonePending

/-- CAPFULL is enabled (R141): the buffer-full event is pending. -/
def Engine.capFullEnabled (r : Engine) : Bool := r.capFullPending

/-- The capture hardware records an edge (R102): configured, line in Input mode, armed, and room left. -/
def Engine.captureOpen (r : Engine) : Bool :=
  r.configured && (r.link == .input) && r.capArmed && (r.capRemaining != 0#6)

/-- Start the Transmit Driver (R94). -/
def Engine.startTx (r : Engine) : Engine := { r with txIndex := 0#5, txActive := true }

/-- The Transmit Driver has output its last entry: it stops, and raises transmit-complete once (R95, R153). -/
def Engine.finishTx (r : Engine) : Engine := { r with txActive := false, txDonePending := true }

/-- Clear the pending transmit-complete event (R155). -/
def Engine.clearTxDone (r : Engine) : Engine := { r with txDonePending := false }

/-- The buffer is full: capture halts, and raises buffer-full once (R102, R153). -/
def Engine.finishCapture (r : Engine) : Engine := { r with capArmed := false, capFullPending := true }

/-- Clear the pending buffer-full event (R155). -/
def Engine.clearCapFull (r : Engine) : Engine := { r with capFullPending := false }

/-- Read-and-clear of the new-data flag: the clearing half (R41, R135). -/
def Engine.clearNewData (r : Engine) : Engine := { r with newData := false }

end Sys2Proof.Machine
end

