-- ==== Sys2Proof/Machine/GcrDecoder.lean ====
section
/-! DEFINITION. The GCR Telemetry Decoder (42_gcr_decoder.md): DECODE, a pure and total function of the first `n`
entries of the edge buffer, and RPM. -/

namespace Sys2Proof.Machine

/-- The reasons of a failed decode (R149). -/
inductive DecodeFail where
  /-- Fewer than 2 edges (R109). -/
  | insufficientEdges
  /-- Fewer than 20 bits (R115). -/
  | insufficientBits
  /-- A symbol with no nibble (R117). -/
  | invalidSymbol
  /-- The checksum disagrees (R119). -/
  | checksumMismatch
  /-- A run above `MAX_RUN` in `Reject` mode (R112). -/
  | gapTooLong
  deriving DecidableEq, Repr

/-- The code of a reason (R149); no register holds it. -/
def DecodeFail.code : DecodeFail → Nat
  | .insufficientEdges => 1
  | .insufficientBits => 2
  | .invalidSymbol => 3
  | .checksumMismatch => 4
  | .gapTooLong => 5

/-- The source's error classes (R148). -/
inductive ErrorClass where
  | busy
  | invalidGcrSymbol
  | checksumMismatch
  | insufficientSignal
  | initializationFailure
  deriving DecidableEq, Repr

/-- The class of a decode failure (R149). -/
def DecodeFail.errorClass : DecodeFail → ErrorClass
  | .insufficientEdges => .insufficientSignal
  | .insufficientBits => .insufficientSignal
  | .invalidSymbol => .invalidGcrSymbol
  | .checksumMismatch => .checksumMismatch
  | .gapTooLong => .insufficientSignal

/-- ROUND (R112): the nearest multiple of `P`, halves up, at least 1, capped at `MAX_RUN`. -/
def roundRun (c : Config) (d : Nat) : Except DecodeFail Nat :=
  let k := max 1 ((d + c.rxBitTicks / 2) / c.rxBitTicks)
  if k ≤ c.maxRun then .ok k
  else match c.runCapMode with
    | .clamp => .ok c.maxRun
    | .reject => .error .gapTooLong

/-- The loop of RUNS (R114) from the timestamp `prev`: each later timestamp ends a run of `level`; the run is cut at
21 bits, and the 21st bit ends the loop. -/
def runsFrom (c : Config) (bits : List Bool) (level : Bool) (prev : Nat) :
    List Nat → Except DecodeFail (List Bool)
  | [] => .ok bits
  | next :: rest =>
    match roundRun c (tickDelta c.tickWidth prev next) with
    | .error e => .error e
    | .ok k =>
      let bits' := bits ++ List.replicate (min k (telemBits - bits.length)) level
      if bits'.length = telemBits then .ok bits' else runsFrom c bits' (!level) next rest

/-- RUNS (R114) on the first `n` timestamps: consecutive pairs in increasing order (R113), starting at
`INITIAL_LEVEL`. -/
def runs (c : Config) (buf : List Nat) (n : Nat) : Except DecodeFail (List Bool) :=
  match buf.take n with
  | [] => .ok []
  | first :: rest => runsFrom c [] c.initialLevel first rest

/-- ASSEMBLE (R116): the first 20 bits, first received most significant (R69); a 21st bit is dropped. -/
def assemble (bits : List Bool) : BitVec 20 :=
  BitVec.ofNat 20 ((bits.take telemMinBits).foldl (fun g b => 2 * g + b.toNat) 0)

/-- Lookup in the GCR table (R75): `none` is the sentinel `Invalid`. -/
def gcr (c : Config) (s : Symbol) : Option Nibble := (c.gcrTable[s.toNat]?).join

/-- SYMBOLS and the first half of VALUE (R117, R118): the four symbols, first received first, through the table; the
value is `n0 : n1 : n2 : n3`. -/
def decodeSymbols (c : Config) (g : BitVec 20) : Except DecodeFail (BitVec 16) :=
  match gcr c (g.extractLsb' 15 5), gcr c (g.extractLsb' 10 5), gcr c (g.extractLsb' 5 5), gcr c (g.extractLsb' 0 5) with
  | some n0, some n1, some n2, some n3 => .ok (n0 ++ n1 ++ n2 ++ n3)
  | _, _, _, _ => .error .invalidSymbol

/-- `period` = bits 15:4 of the decoded value (R70, R118). -/
def telemPeriod (v : BitVec 16) : BitVec 12 := v.extractLsb' 4 12

/-- `tcsum` = bits 3:0 of the decoded value (R70, R118). -/
def telemCsum (v : BitVec 16) : Nibble := v.extractLsb' 0 4

/-- CHECKSUM (R119). -/
def checkValue (v : BitVec 16) : Except DecodeFail (BitVec 12) :=
  if telemCsum v = csum12 (telemPeriod v) then .ok (telemPeriod v) else .error .checksumMismatch

/-- Steps 4 to 6 on the recovered bits: MIN_BITS, ASSEMBLE, SYMBOLS, VALUE, CHECKSUM (R115 to R119). -/
def decodeBits (c : Config) (bits : List Bool) : Except DecodeFail (BitVec 12) :=
  if bits.length < telemMinBits then .error .insufficientBits
  else match decodeSymbols c (assemble bits) with
    | .error e => .error e
    | .ok v => checkValue v

/-- DECODE (R120): the steps in order; the first failure ends the decode with its reason (R150). -/
def decodeTelemetry (c : Config) (buf : List Nat) (n : Nat) : Except DecodeFail (BitVec 12) :=
  if n < 2 then .error .insufficientEdges
  else match runs c buf n with
    | .error e => .error e
    | .ok bits => decodeBits c bits

/-- RPM (R121), electrical: `ERPM_CONST div period`, 0 at period 0. -/
def erpmOf (period : BitVec 12) : Reg32 :=
  if period = 0#12 then 0#32 else BitVec.ofNat 32 (erpmConst / period.toNat)

/-- RPM (R121), mechanical: `(erpm * 2) div MOTOR_POLES`, 0 at period 0. -/
def mrpmOf (c : Config) (period : BitVec 12) : Reg32 :=
  if period = 0#12 then 0#32 else BitVec.ofNat 32 (erpmConst / period.toNat * 2 / c.motorPoles)

end Sys2Proof.Machine
end

