-- ==== Sys2Proof/Machine/Ops.lean ====
section
/-! DEFINITION. The shared operations on the block state: initialisation, issue, the line mux, the capture, the decode
step, and the handling of a completion event (the block's only asynchronous entry: it has no trap, R147). Each is a
function of the configuration and the state before the step; all its writes are seen together (R15, R16). -/

namespace Sys2Proof.Machine

/-- The block state after a successful INIT (R165): every field but `tick`. -/
def Engine.initialised (c : Config) (r : Engine) : Engine where
  configured := true
  state := stIdle
  link := .output
  frame := 0#16
  duty := List.replicate dutyLen (idleVal c)
  txActive := false
  txIndex := 0#5
  cmpOut := idleVal c
  txDonePending := false
  capArmed := false
  capRemaining := BitVec.ofNat 6 c.edgeCap
  edgeBuf := List.replicate c.edgeCap 0
  capFullPending := false
  tick := r.tick
  tMark := 0
  erpm := 0#32
  mrpm := 0#32
  valid := false
  lastUpdate := 0
  framesSent := 0#32
  decodeOk := 0#32
  decodeFail := 0#32
  newData := false

/-- ISSUE (R128): from Idle, build the frame and its duty sequence, count it, start the Transmit Driver and enter
Sending; in any other state the request is dropped (Busy, R131). -/
def Engine.issue (c : Config) (v : Arg) (telem : Bool) (r : Engine) : Engine :=
  if r.state = stIdle then
    { r.startTx with
      frame := encodeFrame v telem
      duty := dutyMap c (encodeFrame v telem)
      framesSent := r.framesSent + 1#32
      state := stSending }
  else r

/-- One bit slot of the Transmit Driver (R95): apply the next duty entry; the 17th finishes the transmission. -/
def Engine.txSlot (r : Engine) : Except Fault Engine :=
  match r.duty[r.txIndex.toNat]? with
  | none => .error .indexFault
  | some d =>
    let r' := { r with cmpOut := d, txIndex := r.txIndex + 1#5 }
    .ok (if r.txIndex.toNat + 1 = dutyLen then r'.finishTx else r')

/-- EDGE_COUNT (R31, R103): `EDGE_CAP - cap_remaining`. -/
def Engine.edges (c : Config) (r : Engine) : Nat := c.edgeCap - r.capRemaining.toNat

/-- SWITCH_TO_INPUT (R99): requires the output feed idle. -/
def Engine.switchToInput (r : Engine) : Except Fault Engine :=
  if r.txActive then .error .linkBusy else .ok { r with link := .input }

/-- SWITCH_TO_OUTPUT (R100): capture feed disabled, line driven at the idle compare value. -/
def Engine.switchToOutput (c : Config) (r : Engine) : Engine :=
  { r with capArmed := false, link := .output, cmpOut := idleVal c }

/-- ARM_CAPTURE (R101): buffer cleared, edge counter reset, a stale buffer-full event discarded, capture armed. -/
def Engine.armCapture (c : Config) (r : Engine) : Engine :=
  { r with
    edgeBuf := List.replicate c.edgeCap 0
    capRemaining := BitVec.ofNat 6 c.edgeCap
    capFullPending := false
    capArmed := true }

/-- STOP_CAPTURE (R104): no further capture, the edge count frozen. -/
def Engine.stopCapture (r : Engine) : Engine := { r with capArmed := false }

/-- The capture of one edge (R102) while the capture is open: the tick goes to entry `edges(R)`; the last entry halts
capture. An index outside the buffer is a fault (R47). Log entry 9. -/
def Engine.captureEdge (c : Config) (r : Engine) : Except Fault Engine :=
  if c.edgeCap < r.capRemaining.toNat ∨ r.edgeBuf.length ≤ r.edges c then .error .indexFault
  else
    let r' := { r with edgeBuf := r.edgeBuf.set (r.edges c) r.tick, capRemaining := r.capRemaining - 1#6 }
    .ok (if r.capRemaining = 1#6 then r'.finishCapture else r')

/-- EDGE (R102): recorded while the capture is open, lost otherwise. -/
def Engine.edge (c : Config) (r : Engine) : Except Fault Engine :=
  if r.captureOpen then r.captureEdge c else .ok r

/-- Ticks since `t_mark`, modulo `2 ^ W` (R35, R137, R138). -/
def Engine.elapsed (c : Config) (r : Engine) : Nat := tickDelta c.tickWidth r.tMark r.tick

/-- Publish a successful decode in the Telemetry Record (R139, R57). -/
def Engine.publish (c : Config) (period : BitVec 12) (r : Engine) : Engine :=
  { r with
    erpm := erpmOf period
    mrpm := mrpmOf c period
    valid := true
    lastUpdate := r.tick
    decodeOk := r.decodeOk + 1#32
    newData := true }

/-- Count a failed decode (R139, R148): the failure counter only, whatever the reason. -/
def Engine.countFailure (r : Engine) : Engine := { r with decodeFail := r.decodeFail + 1#32 }

/-- The captured timestamps, entries `0 .. edges(R) - 1`. An index outside the buffer is a fault (R47). -/
def Engine.capturedEdges (c : Config) (r : Engine) : Except Fault (List Nat) :=
  if r.edgeBuf.length < r.edges c then .error .indexFault else .ok (r.edgeBuf.take (r.edges c))

/-- ADVANCE in AwaitingResponse (R137): once the minimum delay has elapsed, switch to input, arm, mark, enter
Receiving. -/
def Engine.advanceAwaiting (c : Config) (r : Engine) : Except Fault Engine :=
  if c.responseDelayTicks ≤ r.elapsed c then
    match r.switchToInput with
    | .error e => .error e
    | .ok r' => .ok { r'.armCapture c with tMark := r.tick, state := stReceiving }
  else .ok r

/-- ADVANCE in Receiving (R138): on the target edge count or the timeout, stop capture and enter Decoding. -/
def Engine.advanceReceiving (c : Config) (r : Engine) : Engine :=
  if c.edgeTarget ≤ r.edges c ∨ c.rxTimeoutTicks ≤ r.elapsed c then { r.stopCapture with state := stDecoding } else r

/-- ADVANCE in Decoding (R139): decode, publish or count the failure, restore output mode, enter Idle. -/
def Engine.advanceDecoding (c : Config) (r : Engine) : Except Fault Engine :=
  match r.capturedEdges c with
  | .error e => .error e
  | .ok buf =>
    let r' := match decodeTelemetry c buf (r.edges c) with
      | .ok period => r.publish c period
      | .error _ => r.countFailure
    .ok { r'.switchToOutput c with state := stIdle }

/-- ADVANCE (R136): one case on the state, at most one transition. -/
def Engine.advance (c : Config) (r : Engine) : Except Fault Engine :=
  if r.state = stIdle then .ok r
  else if r.state = stSending then .ok r
  else if r.state = stAwaiting then r.advanceAwaiting c
  else if r.state = stReceiving then .ok (r.advanceReceiving c)
  else if r.state = stDecoding then r.advanceDecoding c
  else .error .badState

/-- The handling of a completion event whose pending bit has been cleared (R155): the transition runs only if the
state is the one the event belongs to; nothing is saved and there is nothing to return to (R157, R158). -/
def Engine.handleEvent (owner : StateCode) (transition : Engine → Engine) (r : Engine) : Engine :=
  if r.state = owner then transition r else r

/-- The transition of the transmit-complete event (R140). -/
def Engine.enterAwaiting (r : Engine) : Engine := { r with state := stAwaiting, tMark := r.tick }

/-- The transition of the buffer-full event (R141). -/
def Engine.enterDecoding (r : Engine) : Engine := { r.stopCapture with state := stDecoding }

/-- The tick source advances by `k` (R34, R142). -/
def Engine.advanceTick (c : Config) (k : Arg) (r : Engine) : Engine :=
  { r with tick := tickAdd c.tickWidth r.tick k.toNat }

/-- The step ends in the block state `r` with the response `resp`. -/
def State.answer (s : State) (r : Engine) (resp : Response) : State := { s with r := r, response := resp }

/-- The step ends in the block state of `res` with no response, or in the fault of `res`. -/
def State.conclude (s : State) (res : Except Fault Engine) : Host.Outcome State Fault Refusal :=
  match res with
  | .ok r => .next (s.answer r .nothing)
  | .error f => .fault f

/-- The gate of R126: before a successful INIT the stimulus is refused. -/
def State.ifConfigured (s : State) (k : Host.Outcome State Fault Refusal) : Host.Outcome State Fault Refusal :=
  if s.r.configured then k else .refused .notConfigured

/-- The gate of an event or slot: with its enabling condition false the hardware has no such step (R95, R140, R141).
Before INIT the reason is `NotConfigured` (R126): DEDUCED, log entry 17. -/
def State.ifEnabled (s : State) (enabled : Bool) (k : Host.Outcome State Fault Refusal) :
    Host.Outcome State Fault Refusal :=
  s.ifConfigured (if enabled then k else .refused .notEnabled)

/-- The draw of `INIT_OK` that the next INIT sees (R11, U11): the platform's next supplied answer, and past those a
free value. -/
def State.initOk (s : State) : Bool :=
  match s.initAnswers with
  | b :: _ => b
  | [] => Config.initOk s.initDraws

/-- The draw of `INIT_OK` is spent: a supplied answer is used up, or the count of free draws moves on. -/
def State.spendInitDraw (s : State) : State :=
  match s.initAnswers with
  | _ :: rest => { s with initAnswers := rest }
  | [] => { s with initDraws := s.initDraws + 1 }

end Sys2Proof.Machine
end

