-- ==== Sys2Proof/Machine/HostOps.lean ====
section
/-! DEFINITION. The host operations (43_sequencer_host.md, sections 2 to 4): INIT, the send requests and the queries. -/

namespace Sys2Proof.Machine

/-- INIT (R127): refused once configured; on a successful draw the reset values of R165 and response 1, on a failed
one no field of `R` written and response 0 (R166). -/
def execInit (s : State) : Host.Outcome State Fault Refusal :=
  if s.r.configured then .refused .alreadyConfigured
  else .next (s.spendInitDraw.answer (if s.initOk then s.r.initialised s.cfg.val else s.r) (.word (zextBool s.initOk)))

/-- THROTTLE v (R129): ISSUE with the telemetry flag set. -/
def execThrottle (v : Arg) (s : State) : Host.Outcome State Fault Refusal :=
  s.ifConfigured (.next (s.answer (s.r.issue s.cfg.val v true) .nothing))

/-- COMMAND c (R130): ISSUE with the telemetry flag clear. -/
def execCommand (c : Arg) (s : State) : Host.Outcome State Fault Refusal :=
  s.ifConfigured (.next (s.answer (s.r.issue s.cfg.val c false) .nothing))

/-- READY (R132): 1 if Idle, else 0. -/
def execReady (s : State) : Host.Outcome State Fault Refusal :=
  s.ifConfigured (.next (s.answer s.r (.word (zextBool (s.r.state == stIdle)))))

/-- GETSTATE (R133): the state code. Codes 5 to 7 are never returned (R76); a state that holds one is the fault
`BadState` (R23). DEDUCED, log entry 7. -/
def execGetstate (s : State) : Host.Outcome State Fault Refusal :=
  s.ifConfigured
    (if s.r.state.toNat ≤ 4 then .next (s.answer s.r (.word (zextState s.r.state))) else .fault .badState)

/-- GETTELEM (R134): the Telemetry Record, in every protocol state. -/
def execGettelem (s : State) : Host.Outcome State Fault Refusal :=
  s.ifConfigured (.next (s.answer s.r (.record s.r.record)))

/-- POLLNEW (R135): the new-data flag, cleared in the same step. -/
def execPollnew (s : State) : Host.Outcome State Fault Refusal :=
  s.ifConfigured (.next (s.answer s.r.clearNewData (.word (zextBool s.r.newData))))

end Sys2Proof.Machine
end

