-- ==== Sys2Proof/Machine/LineEvents.lean ====
section
/-! DEFINITION. The hardware events: TXSLOT of the Transmit Driver, EDGE of the ESC and the capture hardware, TICK of
the tick source. -/

namespace Sys2Proof.Machine

/-- TXSLOT (R95). -/
def execTxslot (s : State) : Host.Outcome State Fault Refusal :=
  s.ifEnabled s.r.txSlotEnabled (s.conclude s.r.txSlot)

/-- EDGE (R102): always enabled, also before INIT. -/
def execEdge (s : State) : Host.Outcome State Fault Refusal :=
  s.conclude (s.r.edge s.cfg.val)

/-- TICK k (R142): always enabled, also before INIT; `k = 0` is refused (R80). Log
entry 13. -/
def execTick (k : Arg) (s : State) : Host.Outcome State Fault Refusal :=
  if k = 0#16 then .refused (.reserved .tickZero)
  else .next (s.answer (s.r.advanceTick s.cfg.val k) .nothing)

end Sys2Proof.Machine
end

