-- ==== Sys2Proof/Machine/Sequencer.lean ====
section
/-! DEFINITION. The periodic driver and the completion callbacks (43_sequencer_host.md, sections 5 and 6). -/

namespace Sys2Proof.Machine

/-- ADVANCE (R136 to R139). -/
def execAdvance (s : State) : Host.Outcome State Fault Refusal :=
  s.ifConfigured (s.conclude (s.r.advance s.cfg.val))

/-- TXDONE (R140): the callback of the transmit-complete event. -/
def execTxdone (s : State) : Host.Outcome State Fault Refusal :=
  s.ifEnabled s.r.txDoneEnabled
    (.next (s.answer (s.r.clearTxDone.handleEvent stSending Engine.enterAwaiting) .nothing))

/-- CAPFULL (R141): the callback of the buffer-full event. -/
def execCapfull (s : State) : Host.Outcome State Fault Refusal :=
  s.ifEnabled s.r.capFullEnabled
    (.next (s.answer (s.r.clearCapFull.handleEvent stReceiving Engine.enterDecoding) .nothing))

end Sys2Proof.Machine
end

