-- ==== Sys2Proof/Machine/Dispatch.lean ====
section
/-! DEFINITION. The dispatch: one arm for each stimulus of the operation map (R78). -/

namespace Sys2Proof.Machine

def exec (i : Instr) (s : State) : Host.Outcome State Fault Refusal :=
  match i with
  | .init => Sys2Proof.Machine.execInit s
  | .throttle v => Sys2Proof.Machine.execThrottle v s
  | .command c => Sys2Proof.Machine.execCommand c s
  | .ready => Sys2Proof.Machine.execReady s
  | .getstate => Sys2Proof.Machine.execGetstate s
  | .gettelem => Sys2Proof.Machine.execGettelem s
  | .pollnew => Sys2Proof.Machine.execPollnew s
  | .advance => Sys2Proof.Machine.execAdvance s
  | .txslot => Sys2Proof.Machine.execTxslot s
  | .txdone => Sys2Proof.Machine.execTxdone s
  | .capfull => Sys2Proof.Machine.execCapfull s
  | .edge => Sys2Proof.Machine.execEdge s
  | .tick k => Sys2Proof.Machine.execTick k s

end Sys2Proof.Machine
end

