-- ==== Sys2Proof/Machine/Fetch.lean ====
section
/-! DEFINITION. Taking the next stimulus word from those presented to the block. The block fetches no instructions
(R61): which agent steps next is chosen outside it (R56, U21). -/

namespace Sys2Proof.Machine

/-- The next stimulus word and the state with it taken, if one is presented. -/
def State.takeStimulus (s : State) : Option (StimWord × State) :=
  match s.stimuli with
  | [] => none
  | w :: rest => some (w, { s with stimuli := rest })

/-- Present a word before all that are waiting. -/
def State.present (s : State) (w : StimWord) : State := { s with stimuli := w :: s.stimuli }

end Sys2Proof.Machine
end

