-- ==== Sys2Proof/Machine/Step.lean ====
section
/-! DEFINITION. One step: take the next stimulus word, decode it, and run it. -/

namespace Sys2Proof.Machine

/-- One atomic step of the block (R16, R18): the next word presented is decoded and its stimulus runs on the state
with the word taken; a reserved or illegal word is refused (R80); with no word presented no agent steps. The
word is decoded before anything else, so before INIT too such a word is refused as `Reserved` and not as `NotConfigured`:
DESIGN CHOICE, log entry 16. -/
def step (s : State) : Host.Outcome State Fault Refusal :=
  match s.takeStimulus with
  | none => .refused .noStimulus
  | some (w, s') =>
    match decode w with
    | .error why => .refused (.reserved why)
    | .ok i => exec i s'

/-- The state with the 32-bit word whose low `nbits` bits are those of `w` presented as the very next stimulus. -/
def State.withFetchWord (s : State) (nbits w : Nat) : State := s.present (BitVec.ofNat 32 (w % 2 ^ nbits))

end Sys2Proof.Machine
end

