-- ==== Sys2Proof/Machine/Assembler.lean ====
section
/-! DEFINITION. The assembler syntax of stimulus programs (R82) and the pseudo-stimuli (R83). A line is a list of
characters; assembling it gives the stimuli it stands for, and `none` where the line has no such form. What R82 leaves open of the text
is log entry 11. -/

namespace Sys2Proof.Machine

/-- `SENDFRAME` (R83): 17 TXSLOT words followed by one TXDONE. -/
def sendFrame : List Instr := List.replicate 17 .txslot ++ [.txdone]

/-- `TICKS n` (R83): `TICK 65535` repeated `n div 65535` times, then `TICK (n mod 65535)` when that is not 0. -/
def ticks (n : Nat) : List Instr :=
  List.replicate (n / 65535) (.tick 65535#16) ++ (if n % 65535 = 0 then [] else [.tick (BitVec.ofNat 16 (n % 65535))])

/-- One gap of `EDGES` (R83): a TICK of `d` followed by EDGE, with no TICK for a gap of 0. -/
def gapThenEdge (d : Arg) : List Instr := if d = 0#16 then [.edge] else [.tick d, .edge]

/-- `EDGES d1, d2, ...` (R83): EDGE, then each gap with its EDGE. -/
def edgesAt (ds : List Arg) : List Instr := .edge :: (ds.map gapThenEdge).flatten

/-- Cut a line at every character of which `p` holds. -/
def splitChars (p : Char → Bool) : List Char → List (List Char)
  | [] => [[]]
  | c :: cs =>
    if p c then [] :: splitChars p cs
    else match splitChars p cs with
      | [] => [[c]]
      | w :: ws => (c :: w) :: ws

/-- The words of a line: what stands between blanks. -/
def lineWords (l : List Char) : List (List Char) := (splitChars (· == ' ') l).filter (fun w => w != [])

/-- The value of one digit in a base. -/
def digitValue (base : Nat) (c : Char) : Option Nat :=
  let n := c.toNat
  let d :=
    if '0'.toNat ≤ n ∧ n ≤ '9'.toNat then n - '0'.toNat
    else if 'a'.toNat ≤ n ∧ n ≤ 'f'.toNat then n - 'a'.toNat + 10
    else if 'A'.toNat ≤ n ∧ n ≤ 'F'.toNat then n - 'A'.toNat + 10
    else base
  if d < base then some d else none

/-- The value of a non-empty word of digits in a base. -/
def digitsValue (base : Nat) (w : List Char) : Option Nat :=
  if w = [] then none
  else w.foldl (fun acc c => match acc, digitValue base c with
    | some n, some d => some (base * n + d)
    | _, _ => none) (some 0)

/-- A number in decimal or `0x` hexadecimal (R82). -/
def numberValue : List Char → Option Nat
  | '0' :: 'x' :: rest => digitsValue 16 rest
  | w => digitsValue 10 w

/-- A number that fits the 16-bit argument field. -/
def argValue (w : List Char) : Option Arg :=
  match numberValue w with
  | some n => if n < 2 ^ 16 then some (BitVec.ofNat 16 n) else none
  | none => none

/-- All of a list of optional values, if none is missing. -/
def allSome {α : Type} : List (Option α) → Option (List α)
  | [] => some []
  | some a :: rest => (allSome rest).map (a :: ·)
  | none :: _ => none

/-- The mnemonic of a stimulus (R78), as characters. -/
def mnemonicOf : Instr → List Char
  | .init => "INIT".toList
  | .throttle _ => "THROTTLE".toList
  | .command _ => "COMMAND".toList
  | .ready => "READY".toList
  | .getstate => "GETSTATE".toList
  | .gettelem => "GETTELEM".toList
  | .pollnew => "POLLNEW".toList
  | .advance => "ADVANCE".toList
  | .txslot => "TXSLOT".toList
  | .txdone => "TXDONE".toList
  | .capfull => "CAPFULL".toList
  | .edge => "EDGE".toList
  | .tick _ => "TICK".toList

/-- The stimuli whose row takes no argument. -/
def plainStimuli : List Instr :=
  [.init, .ready, .getstate, .gettelem, .pollnew, .advance, .txslot, .txdone, .capfull, .edge]

/-- One gap of an EDGES line, the text between two commas: one number, with blanks around it. Two numbers with no comma
between them are no gap, and so the line is none. R83 writes the gaps with commas and does not say what other text
is, nor in which base a gap is written (either one here): DESIGN CHOICE, log entry 11. -/
def gapValue (piece : List Char) : Option Arg :=
  match lineWords piece with
  | [w] => argValue w
  | _ => none

/-- A stimulus or pseudo-stimulus from its words (R82, R83). A TICK of 0 is no line: its word is refused (R80). Which
other text is no line (an argument too many or too few, a gap list without its commas) is DESIGN CHOICE, log entry
11. So is that the number of TICKS and the gaps of EDGES may be in `0x` hexadecimal, which R82 says of the rows of R78
only. -/
def assembleWords : List (List Char) → Option (List Instr)
  | [] => some []
  | [m] =>
    if m = "SENDFRAME".toList then some sendFrame
    else (plainStimuli.find? (fun i => mnemonicOf i == m)).map (fun i => [i])
  | m :: a :: rest =>
    if m = "EDGES".toList then
      (allSome ((splitChars (· == ',') (List.intercalate [' '] (a :: rest))).map gapValue)).map edgesAt
    else if rest ≠ [] then none
    else if m = "THROTTLE".toList then (argValue a).map (fun v => [.throttle v])
    else if m = "COMMAND".toList then (argValue a).map (fun c => [.command c])
    else if m = "TICK".toList then (argValue a).bind (fun k => if k = 0#16 then none else some [.tick k])
    else if m = "TICKS".toList then (numberValue a).bind (fun n => if n = 0 then none else some (ticks n))
    else none

/-- A line without its comment: everything before the first `;` (R82). -/
def withoutComment (l : List Char) : List Char := l.takeWhile (· != ';')

/-- A line without the agent in brackets it may start with, which is a comment (R82); `none` where the bracket is never
closed. R82 does not say what such a line is: that it is rejected is DESIGN CHOICE, log entry 11. -/
def withoutAgent (l : List Char) : Option (List Char) :=
  match l.dropWhile (· == ' ') with
  | '[' :: rest =>
    match rest.dropWhile (· != ']') with
    | [] => none
    | _ :: l' => some l'
  | l' => some l'

/-- Assemble one line (R82, R83). The comment goes first, so a `;` inside the brackets leaves them unclosed (DESIGN
CHOICE, log entry 11). -/
def assembleLine (l : List Char) : Option (List Instr) :=
  (withoutAgent (withoutComment l)).bind (fun l' => assembleWords (lineWords l'))

/-- The words a line stands for. -/
def lineStimuli (l : List Char) : Option (List StimWord) := (assembleLine l).map (List.map encode)

/-- The text of a number in decimal, from its digits, most significant first: what claims give the assembler. -/
def decimalText (ds : List (Fin 10)) : List Char := ds.map (fun d => "0123456789".toList.getD d.val '0')

/-- The text of a number in `0x` hexadecimal, from its digits, most significant first. -/
def hexText (ds : List (Fin 16)) : List Char := "0x".toList ++ ds.map (fun d => "0123456789abcdef".toList.getD d.val '0')

/-- The number whose digits, most significant first, are these. -/
def numberOfDigits {b : Nat} (ds : List (Fin b)) : Nat := ds.foldl (fun n d => b * n + d.val) 0

end Sys2Proof.Machine
end

