-- ==== Sys2Proof/Machine/Reference.lean ====
section
/-! DEFINITION. The reference transmitter of a telemetry response (R124): the 21-bit stream of four GCR symbols and a
marker, and the noise-free edge times of a stream. The block has no such part: claims compare the decoder with it.
Log entry 15. -/

namespace Sys2Proof.Machine

/-- The bits of a symbol, first sent most significant (R69). -/
def symbolBits (s : Symbol) : List Bool := (List.range 5).map (fun i => s.getLsbD (4 - i))

/-- The 21-bit stream of four symbols and a marker (R68, R124). -/
def telemetryStream (s0 s1 s2 s3 : Symbol) (marker : Bool) : List Bool :=
  symbolBits s0 ++ symbolBits s1 ++ symbolBits s2 ++ symbolBits s3 ++ [marker]

/-- The lengths of the level runs of a stream, the run at hand being of `level` and `k` long so far. -/
def runLengthsFrom (level : Bool) (k : Nat) : List Bool → List Nat
  | [] => [k]
  | b :: rest => if b = level then runLengthsFrom level (k + 1) rest else k :: runLengthsFrom b 1 rest

/-- The lengths of the level runs of a stream, in time order. -/
def runLengths : List Bool → List Nat
  | [] => []
  | b :: rest => runLengthsFrom b 1 rest

/-- One edge at `t`, the start of the first run, one at the start of each later run and one at the end of the last,
`p` ticks a bit (R124). -/
def edgeTimes (p t : Nat) : List Nat → List Nat
  | [] => [t]
  | k :: rest => t :: edgeTimes p (t + k * p) rest

end Sys2Proof.Machine
end

