-- ==== Sys2Proof/Safety.lean ====
section
/-! DEFINITION. What a sound state of the machine is, in the terms claims use: the invariants of 10_state.md and
43_sequencer_host.md (R23, R27, R31, R32, R34, R37, R58, R67, R146), and what it is for a step to raise no fault. -/

namespace Sys2Proof.Machine

/-- The protocol state is one of its five values (R23). -/
abbrev Engine.StateOk (r : Engine) : Prop := r.state.toNat ≤ 4

/-- The role of the line follows the protocol state (R27). -/
abbrev Engine.LinkOk (r : Engine) : Prop :=
  ((r.state = stIdle ∨ r.state = stSending ∨ r.state = stAwaiting) → r.link = .output) ∧
  ((r.state = stReceiving ∨ r.state = stDecoding) → r.link = .input)

/-- The duty sequence has 17 entries; they and the applied compare value lie in 0..DUTY_FULL (R47, R67). -/
abbrev Engine.DutyOk (c : Config) (r : Engine) : Prop :=
  r.duty.length = dutyLen ∧ (∀ d ∈ r.duty, d.toNat ≤ c.dutyFull.toNat) ∧ r.cmpOut.toNat ≤ c.dutyFull.toNat

/-- At most one frame is in flight, and only in Sending (R146); the next index is within the sequence while the
driver streams it, and at most 17 (R29, R95). -/
abbrev Engine.TxOk (r : Engine) : Prop :=
  (r.txActive = true → r.state = stSending ∧ r.txIndex.toNat < dutyLen) ∧
  (r.txDonePending = true → r.state = stSending) ∧
  (r.state = stSending → (r.txActive = true ↔ r.txDonePending = false)) ∧
  r.txIndex.toNat ≤ dutyLen

/-- Capture is armed only in Receiving (R146) and with room left; a raised buffer-full event means a full buffer
(R153); the buffer has EDGE_CAP entries, those at and above the edge count 0 (R32). -/
abbrev Engine.CaptureOk (c : Config) (r : Engine) : Prop :=
  (r.capArmed = true → r.state = stReceiving ∧ r.capRemaining ≠ 0#6) ∧
  (r.capFullPending = true → r.capRemaining = 0#6) ∧
  r.capRemaining.toNat ≤ c.edgeCap ∧
  r.edgeBuf.length = c.edgeCap ∧
  (∀ t ∈ r.edgeBuf.drop (r.edges c), t = 0)

/-- Every value of the tick's width is below `2 ^ W` (R32, R34, R35, R39). -/
abbrev Engine.TicksOk (c : Config) (r : Engine) : Prop :=
  r.tMark < 2 ^ c.tickWidth ∧ r.lastUpdate < 2 ^ c.tickWidth ∧ (∀ t ∈ r.edgeBuf, t < 2 ^ c.tickWidth)

/-- The record carries no reading until it is valid (R58, R134), its readings are bounded (R37), and new data is a
valid record's (R41). -/
abbrev Engine.RecordOk (c : Config) (r : Engine) : Prop :=
  (r.valid = false → r.erpm = 0#32 ∧ r.mrpm = 0#32 ∧ r.lastUpdate = 0) ∧
  r.erpm.toNat ≤ erpmConst ∧ r.mrpm.toNat ≤ 2 * erpmConst / c.motorPoles ∧
  (r.newData = true → r.valid = true)

/-- The invariant of a configured block. -/
abbrev Engine.Sound (c : Config) (r : Engine) : Prop :=
  r.StateOk ∧ r.LinkOk ∧ r.DutyOk c ∧ r.TxOk ∧ r.CaptureOk c ∧ r.TicksOk c ∧ r.RecordOk c

/-- The invariant of the machine: the tick is always below `2 ^ W`, and once the block is configured its state is
sound. Before INIT every other field holds any value (R164). -/
abbrev State.Inv (s : State) : Prop :=
  s.r.tick < 2 ^ s.cfg.val.tickWidth ∧ (s.r.configured = true → s.r.Sound s.cfg.val)

/-- The outcome is no fault: the step reaches none of the states of R151 that the chip does not reach. -/
def NoFault (o : Host.Outcome State Fault Refusal) : Prop := ∀ f, o ≠ .fault f

/-- Run one stimulus `n` times, stopping at the first fault or refusal. -/
def execTimes (i : Instr) : Nat → State → Host.Outcome State Fault Refusal
  | 0, s => .next s
  | n + 1, s =>
    match exec i s with
    | .next t => execTimes i n t
    | .fault f => .fault f
    | .refused r => .refused r

end Sys2Proof.Machine
end

