-- ==== Sys2Proof/Certificates/Slice0/Obligations.lean ====
section
/-! DEFINITION. The statements about the model, each from the numbered rules of spec/. A statement about every state
quantifies over the configuration too: `s.cfg` is any configuration that meets R10. -/

open Sys2Proof Sys2Proof.Machine Host

/-! ### Stimulus words -/

/-- R77, R78, R82: the word of a well-formed stimulus decodes to that stimulus. -/
def Obligations.DecodeOfEncodeIsIdentity : Prop :=
  ∀ i : Instr, i.wellFormed = true → decode (encode i) = .ok i

/-- R78, R80: a word that decodes is the word of the stimulus it decodes to, and that stimulus is well formed, so each
word has one meaning and no bit of it is dropped. -/
def Obligations.EncodeOfDecodeIsIdentity : Prop :=
  ∀ (w : StimWord) (i : Instr), decode w = .ok i → encode i = w ∧ i.wellFormed = true

/-- R78: a word decodes exactly when a row of the operation map covers it and it is not TICK 0; the row carries the
mnemonic of the stimulus. -/
def Obligations.DecodeFollowsOperationMap : Prop :=
  (∀ w : StimWord, (∃ i, decode w = .ok i) ↔ (∃ row ∈ opTable, row.covers w = true) ∧ w ≠ 0xC0000000#32) ∧
  (∀ (w : StimWord) (i : Instr) (row : OpRow), decode w = .ok i → row ∈ opTable → row.covers w = true →
    row.mnemonic.toList = mnemonicOf i)

/-- R78: no word is covered by two rows of the operation map. -/
def Obligations.OperationRowsDisjoint : Prop :=
  opTable.Pairwise (fun a b => ∀ w : StimWord, ¬ (a.covers w = true ∧ b.covers w = true))

/-- R80: the step refuses a word as reserved exactly when `op` is above 0xC, or `rsv` is not 0, or `arg` is not 0 for
an operation that takes none (every `op` but 1, 2 and 0xC), or it is TICK 0. The words are R80's; that `Reserved` is the
reason before INIT too, where R126 gives `NotConfigured`, is the model's choice (log entry 16, DESIGN CHOICE). -/
def Obligations.ReservedWordsAreRefused : Prop :=
  ∀ (s : State) (w : StimWord) (rest : List StimWord), s.stimuli = w :: rest →
    ((∃ why, step s = .refused (.reserved why)) ↔
      (0xD ≤ w.toNat / 2 ^ 28 ∨ w.toNat / 2 ^ 16 % 2 ^ 12 ≠ 0 ∨
        (w.toNat % 2 ^ 16 ≠ 0 ∧ w.toNat / 2 ^ 28 ≠ 1 ∧ w.toNat / 2 ^ 28 ≠ 2 ∧ w.toNat / 2 ^ 28 ≠ 0xC) ∨
        (w.toNat / 2 ^ 28 = 0xC ∧ w.toNat % 2 ^ 16 = 0)))

/-- The words V-W1 to V-W10 of 95_test_vectors.md and the word of each fixed row of R78. -/
def Obligations.SampleWordsDecodeAsTheSpecSays : Prop :=
  decode 0x00000000#32 = .ok .init ∧
  decode 0x10000416#32 = .ok (.throttle 1046#16) ∧ decode 0x1000FFFF#32 = .ok (.throttle 65535#16) ∧
  decode 0x2000002F#32 = .ok (.command 47#16) ∧ decode 0x30000000#32 = .ok .ready ∧
  decode 0x40000000#32 = .ok .getstate ∧ decode 0x50000000#32 = .ok .gettelem ∧
  decode 0x60000000#32 = .ok .pollnew ∧ decode 0x70000000#32 = .ok .advance ∧
  decode 0x80000000#32 = .ok .txslot ∧ decode 0x90000000#32 = .ok .txdone ∧
  decode 0xA0000000#32 = .ok .capfull ∧ decode 0xB0000000#32 = .ok .edge ∧
  decode 0xC000001E#32 = .ok (.tick 30#16) ∧
  (∀ i, decode 0xC0000000#32 ≠ .ok i) ∧ (∀ i, decode 0xD0000000#32 ≠ .ok i) ∧
  (∀ i, decode 0xE0000000#32 ≠ .ok i) ∧ (∀ i, decode 0xF0000000#32 ≠ .ok i) ∧
  (∀ i, decode 0x00010000#32 ≠ .ok i) ∧ (∀ i, decode 0x30000001#32 ≠ .ok i) ∧ (∀ i, decode 0x10010416#32 ≠ .ok i)

/-- The model's choice (log entries 1 and 12, DESIGN CHOICE): the words presented to the block are the list
`State.stimuli`, and a step takes the next of them. Where that word decodes, the step is the run of its stimulus on the
state with the word taken, one stimulus to one atomic step (R16, R56); with the list empty the step is refused as
`noStimulus`, the model's form of the outcome stuck. -/
def Obligations.StepRunsTheDecodedStimulus : Prop :=
  (∀ (s : State) (w : StimWord) (rest : List StimWord) (i : Instr), s.stimuli = w :: rest → decode w = .ok i →
    step s = exec i { s with stimuli := rest }) ∧
  (∀ s : State, s.stimuli = [] → step s = .refused .noStimulus)

/-- The model's choice (log entry 1, DESIGN CHOICE): `withFetchWord`, which stands for the load, puts one word before
all that wait. So presented, the word of a well-formed stimulus (R77, R82) makes the very next step the run of that
stimulus. -/
def Obligations.PresentedWordRunsNext : Prop :=
  ∀ (s : State) (i : Instr), i.wellFormed = true → step (s.withFetchWord 32 (encode i).toNat) = exec i s

/-- R83: `TICKS n` expands to legal TICK words whose counts add up to `n`. -/
def Obligations.TicksShorthandAddsUp : Prop :=
  ∀ n : Nat, 1 ≤ n →
    (∀ i ∈ ticks n, ∃ k, i = .tick k ∧ k ≠ 0#16) ∧ ((ticks n).map (fun i => i.arg.toNat)).sum = n

/-- Every word the assembler emits is legal: it decodes (R80), and to the stimulus the assembler encoded there. Which
lines it takes is the model's choice (log entry 11); which stimuli a text gives is said by
AssemblerTextGivesItsStimuli. -/
def Obligations.AssembledLinesAreLegalWords : Prop :=
  ∀ (l : List Char) (is : List Instr), assembleLine l = some is →
    ∃ ws, lineStimuli l = some ws ∧ ws.map decode = is.map Except.ok

/-- R82, R83: the stimuli that a text gives. A mnemonic alone, or with its argument in decimal or `0x` hexadecimal where
the row takes one, gives its row's stimulus; SENDFRAME gives 17 TXSLOT and a TXDONE; TICKS n gives TICK 65535 as often as
65535 goes into n and a TICK of the rest where there is one; EDGES gives an EDGE and, for each gap, a TICK of it with an
EDGE, or the EDGE alone for a gap of 0; a comment from `;` on and an agent in brackets at the start change nothing.
In part the model's choice (log entry 11, DESIGN CHOICE): that a number may have leading zeros, and that the brackets may
hold any text without `]` and `;`, none among it, with no blank needed after them, before a line of R83 too.
Left out here: `0x` digits in capitals, `0x` numbers in TICKS and EDGES, and gaps separated otherwise than by a comma and
a blank. -/
def Obligations.AssemblerTextGivesItsStimuli : Prop :=
  (assembleLine "INIT".toList = some [.init] ∧ assembleLine "READY".toList = some [.ready] ∧
    assembleLine "GETSTATE".toList = some [.getstate] ∧ assembleLine "GETTELEM".toList = some [.gettelem] ∧
    assembleLine "POLLNEW".toList = some [.pollnew] ∧ assembleLine "ADVANCE".toList = some [.advance] ∧
    assembleLine "TXSLOT".toList = some [.txslot] ∧ assembleLine "TXDONE".toList = some [.txdone] ∧
    assembleLine "CAPFULL".toList = some [.capfull] ∧ assembleLine "EDGE".toList = some [.edge] ∧
    assembleLine "SENDFRAME".toList = some (List.replicate 17 .txslot ++ [.txdone])) ∧
  (∀ (v : Arg) (text : List Char),
    ((∃ ds : List (Fin 10), ds ≠ [] ∧ text = decimalText ds ∧ numberOfDigits ds = v.toNat) ∨
      (∃ ds : List (Fin 16), ds ≠ [] ∧ text = hexText ds ∧ numberOfDigits ds = v.toNat)) →
    assembleLine ("THROTTLE ".toList ++ text) = some [.throttle v] ∧
    assembleLine ("COMMAND ".toList ++ text) = some [.command v] ∧
    (v ≠ 0#16 → assembleLine ("TICK ".toList ++ text) = some [.tick v])) ∧
  (∀ ds : List (Fin 10), 1 ≤ numberOfDigits ds →
    assembleLine ("TICKS ".toList ++ decimalText ds) =
      some (List.replicate (numberOfDigits ds / 65535) (.tick 65535#16) ++
        (if numberOfDigits ds % 65535 = 0 then [] else [.tick (BitVec.ofNat 16 (numberOfDigits ds % 65535))]))) ∧
  (∀ gaps : List (List (Fin 10)), gaps ≠ [] → (∀ ds ∈ gaps, ds ≠ [] ∧ numberOfDigits ds < 65536) →
    assembleLine ("EDGES ".toList ++ List.intercalate ", ".toList (gaps.map decimalText)) =
      some (.edge :: gaps.flatMap (fun ds =>
        if numberOfDigits ds = 0 then [.edge] else [.tick (BitVec.ofNat 16 (numberOfDigits ds)), .edge]))) ∧
  (∀ l comment : List Char, assembleLine (l ++ ';' :: comment) = assembleLine l) ∧
  (∀ agent l : List Char, ']' ∉ agent → ';' ∉ agent → (l.dropWhile (· == ' ')).head? ≠ some '[' →
    assembleLine (['['] ++ agent ++ [']'] ++ l) = assembleLine l)

/-! ### Frame Encoder -/

/-- R84, R86: the frame is `p*32 + telem*16 + c`, `p` the request clamped to 2047 and `c` the XOR of the three nibbles
of `p*2 + telem`. -/
def Obligations.FrameArithmetic : Prop :=
  ∀ (v : Arg) (telem : Bool),
    let p := min v.toNat 2047
    let u := p * 2 + telem.toNat
    (clamp v).toNat = p ∧
    (encodeFrame v telem).toNat = p * 32 + telem.toNat * 16 + ((u / 256 % 16) ^^^ (u / 16 % 16) ^^^ (u % 16))

/-- R92: the checksum recomputed from the encoded frame's top 12 bits equals its checksum field, for every request
value and both flag values. -/
def Obligations.FrameChecksumRoundTrips : Prop :=
  ∀ (v : Arg) (telem : Bool),
    csum12 ((encodeFrame v telem).extractLsb' 4 12) = (encodeFrame v telem).extractLsb' 0 4

/-- R87, R88, R89: the duty sequence has 17 entries; entry `i < 16` is the compare value of frame bit `15 - i`, entry
16 the idle value, each complemented against the full level in inverted mode. -/
def Obligations.DutySequenceEntries : Prop :=
  ∀ (c : ValidConfig) (f : Frame),
    (dutyMap c.val f).length = 17 ∧
    (∀ i < 16, ∃ d, (dutyMap c.val f)[i]? = some d ∧
      d.toNat =
        (if c.val.inverted then
          c.val.dutyFull.toNat - (if f.getLsbD (15 - i) then c.val.dutyOne.toNat else c.val.dutyZero.toNat)
        else (if f.getLsbD (15 - i) then c.val.dutyOne.toNat else c.val.dutyZero.toNat))) ∧
    (∃ d, (dutyMap c.val f)[16]? = some d ∧ d.toNat = if c.val.inverted then c.val.dutyFull.toNat else 0)

/-- R91: a frame bit is 1 exactly when its duty entry is ONE_VAL, and the frame can be read back from the sequence. -/
def Obligations.FrameReadBackFromDuty : Prop :=
  ∀ (c : ValidConfig) (f : Frame),
    (∀ i < 16, f.getLsbD (15 - i) = true ↔ (dutyMap c.val f)[i]? = some (oneVal c.val)) ∧
    (∀ g : Frame, dutyMap c.val f = dutyMap c.val g → f = g)

/-! ### GCR Telemetry Decoder -/

/-- R111, R14: DELTA is the difference modulo `2 ^ W`, in 0..2^W-1. -/
def Obligations.DeltaIsModularDifference : Prop :=
  ∀ (w : Nat) (a b : Nat), a < 2 ^ w → b < 2 ^ w →
    ((tickDelta w a b : Nat) : Int) = ((b : Int) - (a : Int)) % (2 ^ w : Int) ∧ tickDelta w a b < 2 ^ w

/-- R112, R122: a delta within half a bit period of `k` periods rounds to `k`, for `1 ≤ k ≤ MAX_RUN`. -/
def Obligations.JitterWithinHalfPeriodIsRounded : Prop :=
  ∀ (c : ValidConfig) (d k : Nat), 1 ≤ k → k ≤ c.val.maxRun →
    k * c.val.rxBitTicks - c.val.rxBitTicks / 2 ≤ d →
    d ≤ k * c.val.rxBitTicks + (c.val.rxBitTicks - c.val.rxBitTicks / 2) - 1 →
    roundRun c.val d = .ok k

/-- R112: below half a period the run is 1; above `MAX_RUN` it is `MAX_RUN` in Clamp mode and the decode fails with
GAP_TOO_LONG in Reject mode. -/
def Obligations.RunLengthLimits : Prop :=
  ∀ (c : ValidConfig) (d : Nat),
    (d < c.val.rxBitTicks - c.val.rxBitTicks / 2 → roundRun c.val d = .ok 1) ∧
    ((c.val.maxRun + 1) * c.val.rxBitTicks ≤ d + c.val.rxBitTicks / 2 → c.val.runCapMode = .clamp →
      roundRun c.val d = .ok c.val.maxRun) ∧
    ((c.val.maxRun + 1) * c.val.rxBitTicks ≤ d + c.val.rxBitTicks / 2 → c.val.runCapMode = .reject →
      roundRun c.val d = .error .gapTooLong)

/-- R114: at most 21 bits are recovered, and once 21 are, no later timestamp is examined. -/
def Obligations.BitstreamStopsAtTwentyOneBits : Prop :=
  ∀ (c : Config) (buf : List Nat) (n : Nat) (bits : List Bool), runs c buf n = .ok bits →
    bits.length ≤ 21 ∧
    (bits.length = 21 → ∀ later : List Nat, runs c (buf.take n ++ later) (n + later.length) = .ok bits)

/-- R109, R115 to R120: a period is decoded exactly from at least 2 edges and at least 20 bits whose four symbols, first
received first, all have a nibble; the period is the first three nibbles and their XOR is the fourth. -/
def Obligations.DecodedPeriodIsChecked : Prop :=
  ∀ (c : Config) (buf : List Nat) (n : Nat) (period : BitVec 12),
    decodeTelemetry c buf n = .ok period ↔
      2 ≤ n ∧ ∃ (bits : List Bool) (n0 n1 n2 n3 : Nibble),
        runs c buf n = .ok bits ∧ 20 ≤ bits.length ∧
        gcr c ((assemble bits).extractLsb' 15 5) = some n0 ∧ gcr c ((assemble bits).extractLsb' 10 5) = some n1 ∧
        gcr c ((assemble bits).extractLsb' 5 5) = some n2 ∧ gcr c ((assemble bits).extractLsb' 0 5) = some n3 ∧
        period.toNat = n0.toNat * 256 + n1.toNat * 16 + n2.toNat ∧ n3 = n0 ^^^ n1 ^^^ n2

/-- R116, R69: bit `19 - i` of the GCR word is the `i`-th bit received. -/
def Obligations.AssembledWordHoldsReceivedBits : Prop :=
  ∀ (bits : List Bool), 20 ≤ bits.length → ∀ i < 20, some ((assemble bits).getLsbD (19 - i)) = bits[i]?

/-- R149, R150: a decode fails with the first reason in step order: edge count, run cap in Reject mode, bit count,
symbols, checksum; a checksum is compared only when every symbol is valid. -/
def Obligations.DecodeFailsWithFirstReason : Prop :=
  ∀ (c : Config) (buf : List Nat) (n : Nat),
    (n < 2 → decodeTelemetry c buf n = .error .insufficientEdges) ∧
    (2 ≤ n → ∀ e, runs c buf n = .error e → e = .gapTooLong ∧ decodeTelemetry c buf n = .error .gapTooLong) ∧
    (2 ≤ n → ∀ bits, runs c buf n = .ok bits → bits.length < 20 →
      decodeTelemetry c buf n = .error .insufficientBits) ∧
    (2 ≤ n → ∀ bits, runs c buf n = .ok bits → 20 ≤ bits.length →
      (∃ j ∈ [15, 10, 5, 0], gcr c ((assemble bits).extractLsb' j 5) = none) →
      decodeTelemetry c buf n = .error .invalidSymbol) ∧
    (2 ≤ n → ∀ bits n0 n1 n2 n3, runs c buf n = .ok bits → 20 ≤ bits.length →
      gcr c ((assemble bits).extractLsb' 15 5) = some n0 → gcr c ((assemble bits).extractLsb' 10 5) = some n1 →
      gcr c ((assemble bits).extractLsb' 5 5) = some n2 → gcr c ((assemble bits).extractLsb' 0 5) = some n3 →
      n3 ≠ n0 ^^^ n1 ^^^ n2 → decodeTelemetry c buf n = .error .checksumMismatch)

/-- R123: shifting every timestamp by a constant modulo `2 ^ W` leaves every DELTA, and so the result of DECODE,
unchanged. -/
def Obligations.DecodeIsWraparoundInvariant : Prop :=
  ∀ (c : Config) (shift : Nat),
    (∀ a b, a < 2 ^ c.tickWidth → b < 2 ^ c.tickWidth →
      tickDelta c.tickWidth ((a + shift) % 2 ^ c.tickWidth) ((b + shift) % 2 ^ c.tickWidth) =
        tickDelta c.tickWidth a b) ∧
    (∀ (buf : List Nat) (n : Nat), (∀ t ∈ buf, t < 2 ^ c.tickWidth) →
      decodeTelemetry c (buf.map (fun t => (t + shift) % 2 ^ c.tickWidth)) n = decodeTelemetry c buf n)

/-- R124: from the noise-free, non-wrapping edges of a value whose checksum is valid the decoder recovers the value and
decodes its period, when the stream starts at `INITIAL_LEVEL` and no run is longer than `MAX_RUN`. -/
def Obligations.SyntheticResponseRoundTrips : Prop :=
  ∀ (c : ValidConfig) (s0 s1 s2 s3 : Symbol) (v : BitVec 16) (marker : Bool) (t : Nat),
    gcr c.val s0 = some (v.extractLsb' 12 4) → gcr c.val s1 = some (v.extractLsb' 8 4) →
    gcr c.val s2 = some (v.extractLsb' 4 4) → gcr c.val s3 = some (v.extractLsb' 0 4) →
    v.extractLsb' 0 4 = csum12 (v.extractLsb' 4 12) →
    (telemetryStream s0 s1 s2 s3 marker).head? = some c.val.initialLevel →
    (∀ k ∈ runLengths (telemetryStream s0 s1 s2 s3 marker), k ≤ c.val.maxRun) →
    t + 21 * c.val.rxBitTicks < 2 ^ c.val.tickWidth →
    let edges := edgeTimes c.val.rxBitTicks t (runLengths (telemetryStream s0 s1 s2 s3 marker))
    runs c.val edges edges.length = .ok (telemetryStream s0 s1 s2 s3 marker) ∧
    decodeSymbols c.val (assemble (telemetryStream s0 s1 s2 s3 marker)) = .ok v ∧
    decodeTelemetry c.val edges edges.length = .ok (v.extractLsb' 4 12)

/-- R73, R125: the table is injective on valid entries, whatever table the configuration has. -/
def Obligations.GcrTableInjectiveOnValid : Prop :=
  ∀ (c : ValidConfig) (a b : Symbol) (x : Nibble), gcr c.val a = some x → gcr c.val b = some x → a = b

/-- R121: electrical and mechanical RPM of a period, truncated, both 0 at period 0, and neither passes 32 bits. -/
def Obligations.RpmOfPeriod : Prop :=
  ∀ (c : ValidConfig) (period : BitVec 12),
    (period = 0#12 → erpmOf period = 0#32 ∧ mrpmOf c.val period = 0#32) ∧
    (period ≠ 0#12 → (erpmOf period).toNat = 60000000 / period.toNat ∧
      (mrpmOf c.val period).toNat = (60000000 / period.toNat * 2) / c.val.motorPoles)

/-! ### Initialisation -/

/-- R127, R165, R166: INIT on an unconfigured block completes. On a successful draw every field but `tick` takes the
value of R165 and the response is 1; on a failed one no field is written and the response is 0. -/
def Obligations.InitWritesResetValues : Prop :=
  ∀ s : State, s.r.configured = false →
    ∃ t, exec .init s = .next t ∧ t.cfg = s.cfg ∧ t.stimuli = s.stimuli ∧
      (s.initOk = true → t.response = .word 1#32 ∧
        t.r =
          { configured := true, state := 0#3, link := .output, frame := 0#16
            duty := List.replicate 17 (if s.cfg.val.inverted then s.cfg.val.dutyFull else 0#16)
            txActive := false, txIndex := 0#5
            cmpOut := if s.cfg.val.inverted then s.cfg.val.dutyFull else 0#16
            txDonePending := false, capArmed := false, capRemaining := BitVec.ofNat 6 s.cfg.val.edgeCap
            edgeBuf := List.replicate s.cfg.val.edgeCap 0, capFullPending := false
            tick := s.r.tick, tMark := 0, erpm := 0#32, mrpm := 0#32, valid := false, lastUpdate := 0
            framesSent := 0#32, decodeOk := 0#32, decodeFail := 0#32, newData := false }) ∧
      (s.initOk = false → t.response = .word 0#32 ∧ t.r = s.r)

/-- R127, R167: a second INIT is refused. -/
def Obligations.SecondInitIsRefused : Prop :=
  ∀ s : State, s.r.configured = true → exec .init s = .refused .alreadyConfigured

/-- R126: before a successful INIT every stimulus but INIT, TICK and EDGE is refused with `NotConfigured`. That this is
the reason for TXSLOT, TXDONE and CAPFULL too, to which R95, R140, R141 and V-S9 give `NotEnabled` wherever their
enabling condition is false, is the model's choice (log entry 17, DEDUCED). -/
def Obligations.UnconfiguredBlockRefuses : Prop :=
  ∀ (s : State) (i : Instr), s.r.configured = false → i.wellFormed = true →
    (exec i s = .refused .notConfigured ↔ (i ≠ .init ∧ i ≠ .edge ∧ ∀ k, i ≠ .tick k))

/-- R164, U1: the unspecified power-on values cannot be seen: of two unconfigured machines that agree on everything but
those fields, each stimulus is refused by both for one reason or completes on both, faulting on neither; they agree again
while unconfigured, and are equal once INIT succeeds. -/
def Obligations.PowerOnValuesCannotBeSeen : Prop :=
  ∀ (s t : State) (i : Instr), s.r.configured = false → t.r.configured = false → s.r.tick = t.r.tick →
    s.cfg = t.cfg → s.stimuli = t.stimuli → s.initAnswers = t.initAnswers → s.initDraws = t.initDraws →
    (∀ why, exec i s = .refused why ↔ exec i t = .refused why) ∧
    ((∃ s', exec i s = .next s') ↔ (∃ t', exec i t = .next t')) ∧
    NoFault (exec i s) ∧ NoFault (exec i t) ∧
    (∀ s' t', exec i s = .next s' → exec i t = .next t' →
      s'.response = t'.response ∧ s'.r.configured = t'.r.configured ∧ s'.r.tick = t'.r.tick ∧
      s'.cfg = t'.cfg ∧ s'.stimuli = t'.stimuli ∧ s'.initAnswers = t'.initAnswers ∧ s'.initDraws = t'.initDraws ∧
      (s'.r.configured = true → s' = t'))

/-! ### Send requests and queries -/

/-- R128, R129, R130: a throttle or command request in Idle completes: the frame of the clamped value with the flag set
on the throttle path only, its duty sequence, one more frame sent, the driver started at entry 0, Sending; every other
field, the record's readings and the capture among them, unchanged. -/
def Obligations.SendRequestStartsFrame : Prop :=
  ∀ (s : State) (v : Arg), s.r.configured = true → s.r.state = 0#3 →
    exec (.throttle v) s = .next { s with
      response := .nothing
      r := { s.r with
        frame := encodeFrame v true, duty := dutyMap s.cfg.val (encodeFrame v true)
        framesSent := s.r.framesSent + 1#32, txIndex := 0#5, txActive := true, state := 1#3 } } ∧
    exec (.command v) s = .next { s with
      response := .nothing
      r := { s.r with
        frame := encodeFrame v false, duty := dutyMap s.cfg.val (encodeFrame v false)
        framesSent := s.r.framesSent + 1#32, txIndex := 0#5, txActive := true, state := 1#3 } }

/-- R131: a send request outside Idle changes no state at all. -/
def Obligations.BusyRequestIsDropped : Prop :=
  ∀ (s : State) (v : Arg), s.r.configured = true → s.r.state ≠ 0#3 →
    exec (.throttle v) s = .next { s with response := .nothing } ∧
    exec (.command v) s = .next { s with response := .nothing }

/-- R132, R133, R134: the queries complete, answer what they read and change no state: READY 1 in Idle and 0 elsewhere,
GETSTATE the code of the protocol state, GETTELEM the Telemetry Record. -/
def Obligations.QueriesAnswerAndChangeNothing : Prop :=
  ∀ s : State, s.r.configured = true →
    exec .ready s = .next { s with response := .word (if s.r.state = 0#3 then 1#32 else 0#32) } ∧
    exec .gettelem s = .next { s with
      response := (Response.record
        ⟨s.r.erpm, s.r.mrpm, s.r.valid, s.r.lastUpdate, s.r.framesSent, s.r.decodeOk, s.r.decodeFail⟩) } ∧
    (s.r.state.toNat ≤ 4 →
      exec .getstate s = .next { s with response := .word (BitVec.ofNat 32 s.r.state.toNat) })

/-- R135: POLLNEW completes: it answers the new-data flag and clears it, so that a second one answers 0. -/
def Obligations.PollnewReadsAndClears : Prop :=
  ∀ s : State, s.r.configured = true →
    ∃ t, exec .pollnew s = .next t ∧
      t = { s with response := .word (if s.r.newData then 1#32 else 0#32), r := { s.r with newData := false } } ∧
      exec .pollnew t = .next { t with response := .word 0#32 }

/-! ### Transmit Driver -/

/-- R95: a slot of a transmission completes: the next duty entry is applied and the index moves on; the slot of entry
16 stops the driver and raises transmit-complete. -/
def Obligations.TxslotAppliesNextEntry : Prop :=
  ∀ (s : State) (d : Duty), s.r.configured = true → s.r.txActive = true → s.r.duty[s.r.txIndex.toNat]? = some d →
    exec .txslot s = .next { s with
      response := .nothing
      r := { s.r with
        cmpOut := d, txIndex := s.r.txIndex + 1#5
        txActive := decide (s.r.txIndex ≠ 16#5)
        txDonePending := decide (s.r.txIndex = 16#5) || s.r.txDonePending } }

/-- R95, R94: exactly 17 slots follow a start: the `k`-th applies entry `k - 1`, the 17th, the last, applies the idle
entry and raises transmit-complete, and an 18th has no step. -/
def Obligations.FrameTakesSeventeenSlots : Prop :=
  ∀ s : State, s.r.configured = true → s.r.txActive = true → s.r.txIndex = 0#5 → s.r.txDonePending = false →
    s.r.duty.length = 17 →
    (∀ k, k < 17 → ∃ t, execTimes .txslot (k + 1) s = .next t ∧ some t.r.cmpOut = s.r.duty[k]? ∧
      t.r.txIndex.toNat = k + 1 ∧ t.r.state = s.r.state ∧ t.r.duty = s.r.duty ∧
      t.r.txActive = decide (k < 16) ∧ t.r.txDonePending = decide (k = 16)) ∧
    execTimes .txslot 18 s = .refused .notEnabled

/-- R97: nothing but the slot of the last entry stops the driver once it is started. -/
def Obligations.OnlyLastSlotStopsTransmission : Prop :=
  ∀ (s t : State) (i : Instr), s.r.configured = true → s.r.txActive = true → exec i s = .next t →
    t.r.txActive = false → i = .txslot ∧ s.r.txIndex = 16#5

/-! ### Completion events -/

/-- R140, R155: with its event pending TXDONE completes: the event is cleared, and in Sending the block enters
AwaitingResponse and records the tick. -/
def Obligations.TxdoneHandlesTransmitComplete : Prop :=
  ∀ s : State, s.r.configured = true → s.r.txDonePending = true →
    exec .txdone s = .next { s with
      response := .nothing
      r := { s.r with
        txDonePending := false
        state := if s.r.state = 1#3 then 2#3 else s.r.state
        tMark := if s.r.state = 1#3 then s.r.tick else s.r.tMark } }

/-- R141, R155: with its event pending CAPFULL completes: the event is cleared, and in Receiving capture stops and the
block enters Decoding. -/
def Obligations.CapfullHandlesBufferFull : Prop :=
  ∀ s : State, s.r.configured = true → s.r.capFullPending = true →
    exec .capfull s = .next { s with
      response := .nothing
      r := { s.r with
        capFullPending := false
        state := if s.r.state = 3#3 then 4#3 else s.r.state
        capArmed := if s.r.state = 3#3 then false else s.r.capArmed } }

/-- R95, R140, R141: a slot with no transmission in progress and a callback with no event pending are no step of the
hardware. -/
def Obligations.StepWithoutEventIsNotEnabled : Prop :=
  ∀ s : State, s.r.configured = true →
    (s.r.txActive = false ↔ exec .txslot s = .refused .notEnabled) ∧
    (s.r.txDonePending = false ↔ exec .txdone s = .refused .notEnabled) ∧
    (s.r.capFullPending = false ↔ exec .capfull s = .refused .notEnabled)

/-- R106, P5: the two ways a full capture ends agree: ADVANCE and then the stale CAPFULL reach the block state that
CAPFULL alone reaches. -/
def Obligations.CaptureEndIsOrderIndependent : Prop :=
  ∀ s : State, s.Inv → s.r.configured = true → s.r.state = 3#3 → s.r.capFullPending = true →
    ∃ a b c, exec .advance s = .next a ∧ a.r.state = 4#3 ∧ exec .capfull a = .next b ∧ exec .capfull s = .next c ∧
      b.r = c.r

/-! ### Capture and tick -/

/-- R102, R31: an edge while the capture is open completes: the tick goes to entry `edges(R)`, the remaining capacity
falls by one, and the last entry halts capture and raises buffer-full; every other entry and field is unchanged. -/
def Obligations.EdgeRecordsTick : Prop :=
  ∀ s : State, s.r.configured = true → s.r.link = .input → s.r.capArmed = true → s.r.capRemaining ≠ 0#6 →
    s.r.capRemaining.toNat ≤ s.cfg.val.edgeCap → s.r.edgeBuf.length = s.cfg.val.edgeCap →
    ∃ t, exec .edge s = .next t ∧
      t = { s with
        response := .nothing
        r := { s.r with
          edgeBuf := t.r.edgeBuf, capRemaining := s.r.capRemaining - 1#6
          capArmed := decide (s.r.capRemaining ≠ 1#6)
          capFullPending := decide (s.r.capRemaining = 1#6) || s.r.capFullPending } } ∧
      t.r.edgeBuf.length = s.r.edgeBuf.length ∧
      t.r.edgeBuf[s.cfg.val.edgeCap - s.r.capRemaining.toNat]? = some s.r.tick ∧
      (∀ j, j ≠ s.cfg.val.edgeCap - s.r.capRemaining.toNat → t.r.edgeBuf[j]? = s.r.edgeBuf[j]?)

/-- R102: an edge before INIT, in Output mode, with capture not armed or the buffer full is lost: the step completes
and nothing changes. -/
def Obligations.EdgeOutsideCaptureIsLost : Prop :=
  ∀ s : State, (s.r.configured = false ∨ s.r.link = .output ∨ s.r.capArmed = false ∨ s.r.capRemaining = 0#6) →
    exec .edge s = .next { s with response := .nothing }

/-- R142: TICK k completes, also before INIT, and adds `k` to the tick modulo `2 ^ W`; nothing else changes; TICK 0 is
refused. -/
def Obligations.TickAdvancesCounter : Prop :=
  ∀ (s : State) (k : Arg),
    (k ≠ 0#16 → exec (.tick k) s = .next { s with
      response := .nothing, r := { s.r with tick := (s.r.tick + k.toNat) % 2 ^ s.cfg.val.tickWidth } }) ∧
    (k = 0#16 → ∃ why, exec (.tick k) s = .refused (.reserved why))

/-- R142: one TICK k is the same as `k` successive TICK 1. -/
def Obligations.TickIsRepeatedUnitTick : Prop :=
  ∀ (s : State) (k : Arg), k ≠ 0#16 → execTimes (.tick 1#16) k.toNat s = exec (.tick k) s

/-! ### The periodic driver -/

/-- R136: ADVANCE in Idle and in Sending completes and changes nothing: Sending has no timeout. A reserved state code is
the fault BadState. -/
def Obligations.AdvanceWaitsInIdleAndSending : Prop :=
  ∀ s : State, s.r.configured = true →
    ((s.r.state = 0#3 ∨ s.r.state = 1#3) → exec .advance s = .next { s with response := .nothing }) ∧
    (5 ≤ s.r.state.toNat → exec .advance s = .fault .badState)

/-- R137: ADVANCE in AwaitingResponse completes: once RESPONSE_DELAY_TICKS have elapsed since `t_mark`, modulo `2 ^ W`,
the line turns to input, capture is armed on a cleared buffer, the tick is marked and the block is Receiving; before
that nothing changes. -/
def Obligations.AdvanceArmsCaptureAfterDelay : Prop :=
  ∀ s : State, s.r.configured = true → s.r.state = 2#3 → s.r.txActive = false →
    s.r.tick < 2 ^ s.cfg.val.tickWidth → s.r.tMark < 2 ^ s.cfg.val.tickWidth →
    exec .advance s = .next (
      if s.cfg.val.responseDelayTicks ≤ (s.r.tick + 2 ^ s.cfg.val.tickWidth - s.r.tMark) % 2 ^ s.cfg.val.tickWidth then
        { s with
          response := .nothing
          r := { s.r with
            link := .input, edgeBuf := List.replicate s.cfg.val.edgeCap 0
            capRemaining := BitVec.ofNat 6 s.cfg.val.edgeCap, capFullPending := false, capArmed := true
            tMark := s.r.tick, state := 3#3 } }
      else { s with response := .nothing })

/-- R138: ADVANCE in Receiving completes: on EDGE_TARGET edges or once RX_TIMEOUT_TICKS have elapsed since `t_mark`,
modulo `2 ^ W`, capture stops and the block is Decoding; before that nothing changes. -/
def Obligations.AdvanceEndsCaptureOnTargetOrTimeout : Prop :=
  ∀ s : State, s.r.configured = true → s.r.state = 3#3 →
    s.r.tick < 2 ^ s.cfg.val.tickWidth → s.r.tMark < 2 ^ s.cfg.val.tickWidth →
    exec .advance s = .next (
      if s.cfg.val.edgeTarget ≤ s.cfg.val.edgeCap - s.r.capRemaining.toNat ∨
          s.cfg.val.rxTimeoutTicks ≤ (s.r.tick + 2 ^ s.cfg.val.tickWidth - s.r.tMark) % 2 ^ s.cfg.val.tickWidth then
        { s with response := .nothing, r := { s.r with capArmed := false, state := 4#3 } }
      else { s with response := .nothing })

/-- R139: ADVANCE in Decoding completes: a decoded period is published (RPM, validity, tick, success counter, new
data), a failure counts in the failure counter only; either way output mode and the idle compare value are restored
and the block is Idle, the buffer as it was. -/
def Obligations.AdvanceDecodesAndReturnsToIdle : Prop :=
  ∀ s : State, s.r.configured = true → s.r.state = 4#3 → s.r.edgeBuf.length = s.cfg.val.edgeCap →
    (∀ period, decodeTelemetry s.cfg.val s.r.edgeBuf (s.cfg.val.edgeCap - s.r.capRemaining.toNat) = .ok period →
      exec .advance s = .next { s with
        response := .nothing
        r := { s.r with
          erpm := erpmOf period, mrpm := mrpmOf s.cfg.val period, valid := true, lastUpdate := s.r.tick
          decodeOk := s.r.decodeOk + 1#32, newData := true
          capArmed := false, link := .output, state := 0#3
          cmpOut := if s.cfg.val.inverted then s.cfg.val.dutyFull else 0#16 } }) ∧
    (∀ reason, decodeTelemetry s.cfg.val s.r.edgeBuf (s.cfg.val.edgeCap - s.r.capRemaining.toNat) = .error reason →
      exec .advance s = .next { s with
        response := .nothing
        r := { s.r with
          decodeFail := s.r.decodeFail + 1#32
          capArmed := false, link := .output, state := 0#3
          cmpOut := if s.cfg.val.inverted then s.cfg.val.dutyFull else 0#16 } })

/-- R151, R23, R47, R99: where the model raises the three faults of states the chip does not reach: GETSTATE (log entry
7) and ADVANCE on a reserved state code; ADVANCE that would turn the line while the transmitter is active; a buffer
index out of range at a slot, an edge or a decode (log entry 9). -/
def Obligations.UnreachableStatesFault : Prop :=
  ∀ s : State, s.r.configured = true →
    (5 ≤ s.r.state.toNat → exec .getstate s = .fault .badState ∧ exec .advance s = .fault .badState) ∧
    (s.r.state = 2#3 → s.r.txActive = true →
      s.cfg.val.responseDelayTicks ≤ tickDelta s.cfg.val.tickWidth s.r.tMark s.r.tick →
      exec .advance s = .fault .linkBusy) ∧
    (s.r.txActive = true → s.r.duty.length ≤ s.r.txIndex.toNat → exec .txslot s = .fault .indexFault) ∧
    (s.r.link = .input → s.r.capArmed = true → s.r.capRemaining ≠ 0#6 →
      (s.cfg.val.edgeCap < s.r.capRemaining.toNat ∨
        s.r.edgeBuf.length ≤ s.cfg.val.edgeCap - s.r.capRemaining.toNat) →
      exec .edge s = .fault .indexFault) ∧
    (s.r.state = 4#3 → s.r.edgeBuf.length < s.cfg.val.edgeCap - s.r.capRemaining.toNat →
      exec .advance s = .fault .indexFault)

/-! ### The whole machine -/

/-- The transition table of 43_sequencer_host.md: a configured block changes its protocol state only Idle to Sending by
a send request, Sending to AwaitingResponse by TXDONE, AwaitingResponse to Receiving by ADVANCE, Receiving to Decoding
by ADVANCE or CAPFULL, and Decoding to Idle by ADVANCE. -/
def Obligations.ProtocolStateFollowsTransitionTable : Prop :=
  ∀ (s t : State) (i : Instr), s.r.configured = true → exec i s = .next t → t.r.state ≠ s.r.state →
    (s.r.state = 0#3 ∧ t.r.state = 1#3 ∧ ∃ v, i = .throttle v ∨ i = .command v) ∨
    (s.r.state = 1#3 ∧ t.r.state = 2#3 ∧ i = .txdone ∧ s.r.txDonePending = true) ∨
    (s.r.state = 2#3 ∧ t.r.state = 3#3 ∧ i = .advance) ∨
    (s.r.state = 3#3 ∧ t.r.state = 4#3 ∧ (i = .advance ∨ i = .capfull ∧ s.r.capFullPending = true)) ∨
    (s.r.state = 4#3 ∧ t.r.state = 0#3 ∧ i = .advance)

/-- R40, R54: a session counter moves by exactly 1 modulo 2^32, `frames_sent` only on an accepted send request and
exactly one of the decode counters only on the decode step. -/
def Obligations.SessionCountersMoveByOne : Prop :=
  ∀ (s t : State) (i : Instr), s.r.configured = true → exec i s = .next t →
    (t.r.framesSent = s.r.framesSent ∨
      (t.r.framesSent = s.r.framesSent + 1#32 ∧ s.r.state = 0#3 ∧ ∃ v, i = .throttle v ∨ i = .command v)) ∧
    ((t.r.decodeOk = s.r.decodeOk ∧ t.r.decodeFail = s.r.decodeFail) ∨
      (i = .advance ∧ s.r.state = 4#3 ∧
        ((t.r.decodeOk = s.r.decodeOk + 1#32 ∧ t.r.decodeFail = s.r.decodeFail) ∨
          (t.r.decodeOk = s.r.decodeOk ∧ t.r.decodeFail = s.r.decodeFail + 1#32))))

/-- R54, R57: the readings of the record and the new-data flag's setting come from one step, a successful decode: any
other step of a configured block leaves the readings and the validity flag as they were and sets no new data. -/
def Obligations.RecordWrittenOnlyByDecode : Prop :=
  ∀ (s t : State) (i : Instr), s.r.configured = true → exec i s = .next t →
    (t.r.erpm = s.r.erpm ∧ t.r.mrpm = s.r.mrpm ∧ t.r.valid = s.r.valid ∧ t.r.lastUpdate = s.r.lastUpdate ∧
      (t.r.newData = true → s.r.newData = true)) ∨
    (i = .advance ∧ s.r.state = 4#3 ∧ t.r.valid = true ∧ t.r.newData = true ∧ t.r.lastUpdate = s.r.tick ∧
      t.r.decodeOk = s.r.decodeOk + 1#32)

/-- R25, R38: `configured` and, on a configured block, `valid` are never cleared. -/
def Obligations.ConfiguredAndValidAreNeverCleared : Prop :=
  ∀ (s t : State) (i : Instr), exec i s = .next t → s.r.configured = true →
    t.r.configured = true ∧ (s.r.valid = true → t.r.valid = true)

/-- R47, R52, R53: who writes the storage of a configured block: the frame and duty sequence an accepted send request,
in Idle; the edge buffer an EDGE while capture is armed, or the ADVANCE that arms it. -/
def Obligations.BuffersHaveTheirWriters : Prop :=
  ∀ (s t : State) (i : Instr), s.r.configured = true → exec i s = .next t →
    ((t.r.duty ≠ s.r.duty ∨ t.r.frame ≠ s.r.frame) → s.r.state = 0#3 ∧ ∃ v, i = .throttle v ∨ i = .command v) ∧
    (t.r.edgeBuf ≠ s.r.edgeBuf →
      (i = .edge ∧ s.r.capArmed = true ∧ s.r.link = .input) ∨ (i = .advance ∧ s.r.state = 2#3))

/-- R34, R45, R142: the tick is moved by TICK alone, before INIT and after it, INIT itself included; no stimulus
changes the configuration or the stimuli waiting. -/
def Obligations.TickMovesOnlyByTick : Prop :=
  ∀ (s t : State) (i : Instr), exec i s = .next t →
    t.cfg = s.cfg ∧ t.stimuli = s.stimuli ∧ (t.r.tick ≠ s.r.tick → ∃ k, i = .tick k)

/-- The invariant of the machine is kept by every step: the protocol state stays one of the five (R23), the line
follows it (R27), one operation at most is in flight (R146), the buffers keep their shape and stale entries stay 0
(R32, R47, R67), tick values stay below `2 ^ W` (R34), the record carries no reading until it is valid and stays within
its bounds (R37, R58). -/
def Obligations.InvariantKeptByEveryStep : Prop :=
  ∀ s t : State, s.Inv → step s = .next t → t.Inv

/-- The invariant holds at reset. Reset is power-on with the model's own values (log entry 4). -/
def Obligations.InvariantHoldsAtReset : Prop :=
  State.reset.Inv ∧ State.reset.r.configured = false ∧ State.reset.r.Sound State.reset.cfg.val

/-- R151: from a state that meets the invariant no step raises BadState, LinkBusy or IndexFault. -/
def Obligations.NoFaultFromInvariant : Prop :=
  ∀ s : State, s.Inv → NoFault (step s)

/-- R136 to R139: on a configured block that meets the invariant ADVANCE completes in every protocol state. -/
def Obligations.AdvanceCompletesInEveryState : Prop :=
  ∀ s : State, s.Inv → s.r.configured = true → ∃ t, exec .advance s = .next t
end

