-- ==== Sys2Proof/Laws/Assembler.lean ====
section
/-! SUPPORT. What each stage of the assembler answers, said once. -/

namespace Sys2Proof.Machine

theorem argValue_eq_some {w : List Char} {v : Arg} :
    argValue w = some v ↔ numberValue w = some v.toNat := by
  unfold argValue
  split
  · rename_i n h
    have hv := v.isLt
    split
    · rename_i hn
      rw [h, Option.some.injEq, Option.some.injEq]
      exact ⟨fun e => by rw [← e, BitVec.toNat_ofNat, Nat.mod_eq_of_lt hn], fun e => by rw [e]; simp⟩
    · rename_i hn
      simp only [h, Option.some.injEq, false_iff, reduceCtorEq]
      omega
  · rename_i h; simp [h]

theorem gapValue_eq_some {piece : List Char} {d : Arg} :
    gapValue piece = some d ↔ ∃ w, lineWords piece = [w] ∧ argValue w = some d := by
  unfold gapValue
  split <;> rename_i h <;> simp [h]
  exact fun w hw => absurd hw (h w)

theorem withoutAgent_eq_none {l : List Char} :
    withoutAgent l = none ↔ ∃ rest, l.dropWhile (· == ' ') = '[' :: rest ∧ ']' ∉ rest := by
  unfold withoutAgent
  split
  · rename_i rest h
    cases hd : rest.dropWhile (· != ']') with
    | nil => simp [h, show ']' ∉ rest from fun hm => by simpa using List.dropWhile_eq_nil_iff.mp hd ']' hm]
    | cons c l' =>
      simp only [h, List.cons.injEq, true_and, reduceCtorEq, false_iff, not_exists, not_and, not_not]
      rintro r rfl
      by_contra hm
      have : rest.dropWhile (· != ']') = [] :=
        List.dropWhile_eq_nil_iff.mpr fun x hx => by
          simp only [bne_iff_ne, ne_eq]
          rintro rfl
          exact hm hx
      simp [this] at hd
  · rename_i h
    simp only [reduceCtorEq, false_iff, not_exists, not_and]
    exact fun rest hr => absurd hr (h rest)

theorem assembleLine_eq_some {l : List Char} {is : List Instr} :
    assembleLine l = some is ↔
      ∃ l', withoutAgent (withoutComment l) = some l' ∧ assembleWords (lineWords l') = some is := by
  simp [assembleLine, Option.bind_eq_some_iff]

end Sys2Proof.Machine
end

