-- ==== Sys2Proof/Laws/State.lean ====
section
/-! SUPPORT. One lemma for each field of each update of the state: what the update leaves in it, true by definition. -/

namespace Sys2Proof.Machine

/-! ### The named constants, in the spelling simp uses -/

@[simp] theorem payloadMax_eq : payloadMax = 2047 := rfl
@[simp] theorem frameBits_eq : frameBits = 16 := rfl
@[simp] theorem dutyLen_eq : dutyLen = 17 := rfl
@[simp] theorem telemBits_eq : telemBits = 21 := rfl
@[simp] theorem telemMinBits_eq : telemMinBits = 20 := rfl
@[simp] theorem erpmConst_eq : erpmConst = 60000000 := rfl
@[simp] theorem stIdle_eq : stIdle = 0#3 := rfl
@[simp] theorem stSending_eq : stSending = 1#3 := rfl
@[simp] theorem stAwaiting_eq : stAwaiting = 2#3 := rfl
@[simp] theorem stReceiving_eq : stReceiving = 3#3 := rfl
@[simp] theorem stDecoding_eq : stDecoding = 4#3 := rfl

/-! ### `Engine.startTx` -/

@[simp] theorem Engine.startTx_configured (r : Engine) : r.startTx.configured = r.configured := rfl
@[simp] theorem Engine.startTx_state (r : Engine) : r.startTx.state = r.state := rfl
@[simp] theorem Engine.startTx_link (r : Engine) : r.startTx.link = r.link := rfl
@[simp] theorem Engine.startTx_frame (r : Engine) : r.startTx.frame = r.frame := rfl
@[simp] theorem Engine.startTx_duty (r : Engine) : r.startTx.duty = r.duty := rfl
@[simp] theorem Engine.startTx_txActive (r : Engine) : r.startTx.txActive = true := rfl
@[simp] theorem Engine.startTx_txIndex (r : Engine) : r.startTx.txIndex = 0#5 := rfl
@[simp] theorem Engine.startTx_cmpOut (r : Engine) : r.startTx.cmpOut = r.cmpOut := rfl
@[simp] theorem Engine.startTx_txDonePending (r : Engine) : r.startTx.txDonePending = r.txDonePending := rfl
@[simp] theorem Engine.startTx_capArmed (r : Engine) : r.startTx.capArmed = r.capArmed := rfl
@[simp] theorem Engine.startTx_capRemaining (r : Engine) : r.startTx.capRemaining = r.capRemaining := rfl
@[simp] theorem Engine.startTx_edgeBuf (r : Engine) : r.startTx.edgeBuf = r.edgeBuf := rfl
@[simp] theorem Engine.startTx_capFullPending (r : Engine) : r.startTx.capFullPending = r.capFullPending := rfl
@[simp] theorem Engine.startTx_tick (r : Engine) : r.startTx.tick = r.tick := rfl
@[simp] theorem Engine.startTx_tMark (r : Engine) : r.startTx.tMark = r.tMark := rfl
@[simp] theorem Engine.startTx_erpm (r : Engine) : r.startTx.erpm = r.erpm := rfl
@[simp] theorem Engine.startTx_mrpm (r : Engine) : r.startTx.mrpm = r.mrpm := rfl
@[simp] theorem Engine.startTx_valid (r : Engine) : r.startTx.valid = r.valid := rfl
@[simp] theorem Engine.startTx_lastUpdate (r : Engine) : r.startTx.lastUpdate = r.lastUpdate := rfl
@[simp] theorem Engine.startTx_framesSent (r : Engine) : r.startTx.framesSent = r.framesSent := rfl
@[simp] theorem Engine.startTx_decodeOk (r : Engine) : r.startTx.decodeOk = r.decodeOk := rfl
@[simp] theorem Engine.startTx_decodeFail (r : Engine) : r.startTx.decodeFail = r.decodeFail := rfl
@[simp] theorem Engine.startTx_newData (r : Engine) : r.startTx.newData = r.newData := rfl

/-! ### `Engine.finishTx` -/

@[simp] theorem Engine.finishTx_configured (r : Engine) : r.finishTx.configured = r.configured := rfl
@[simp] theorem Engine.finishTx_state (r : Engine) : r.finishTx.state = r.state := rfl
@[simp] theorem Engine.finishTx_link (r : Engine) : r.finishTx.link = r.link := rfl
@[simp] theorem Engine.finishTx_frame (r : Engine) : r.finishTx.frame = r.frame := rfl
@[simp] theorem Engine.finishTx_duty (r : Engine) : r.finishTx.duty = r.duty := rfl
@[simp] theorem Engine.finishTx_txActive (r : Engine) : r.finishTx.txActive = false := rfl
@[simp] theorem Engine.finishTx_txIndex (r : Engine) : r.finishTx.txIndex = r.txIndex := rfl
@[simp] theorem Engine.finishTx_cmpOut (r : Engine) : r.finishTx.cmpOut = r.cmpOut := rfl
@[simp] theorem Engine.finishTx_txDonePending (r : Engine) : r.finishTx.txDonePending = true := rfl
@[simp] theorem Engine.finishTx_capArmed (r : Engine) : r.finishTx.capArmed = r.capArmed := rfl
@[simp] theorem Engine.finishTx_capRemaining (r : Engine) : r.finishTx.capRemaining = r.capRemaining := rfl
@[simp] theorem Engine.finishTx_edgeBuf (r : Engine) : r.finishTx.edgeBuf = r.edgeBuf := rfl
@[simp] theorem Engine.finishTx_capFullPending (r : Engine) : r.finishTx.capFullPending = r.capFullPending := rfl
@[simp] theorem Engine.finishTx_tick (r : Engine) : r.finishTx.tick = r.tick := rfl
@[simp] theorem Engine.finishTx_tMark (r : Engine) : r.finishTx.tMark = r.tMark := rfl
@[simp] theorem Engine.finishTx_erpm (r : Engine) : r.finishTx.erpm = r.erpm := rfl
@[simp] theorem Engine.finishTx_mrpm (r : Engine) : r.finishTx.mrpm = r.mrpm := rfl
@[simp] theorem Engine.finishTx_valid (r : Engine) : r.finishTx.valid = r.valid := rfl
@[simp] theorem Engine.finishTx_lastUpdate (r : Engine) : r.finishTx.lastUpdate = r.lastUpdate := rfl
@[simp] theorem Engine.finishTx_framesSent (r : Engine) : r.finishTx.framesSent = r.framesSent := rfl
@[simp] theorem Engine.finishTx_decodeOk (r : Engine) : r.finishTx.decodeOk = r.decodeOk := rfl
@[simp] theorem Engine.finishTx_decodeFail (r : Engine) : r.finishTx.decodeFail = r.decodeFail := rfl
@[simp] theorem Engine.finishTx_newData (r : Engine) : r.finishTx.newData = r.newData := rfl

/-! ### `Engine.clearTxDone` -/

@[simp] theorem Engine.clearTxDone_configured (r : Engine) : r.clearTxDone.configured = r.configured := rfl
@[simp] theorem Engine.clearTxDone_state (r : Engine) : r.clearTxDone.state = r.state := rfl
@[simp] theorem Engine.clearTxDone_link (r : Engine) : r.clearTxDone.link = r.link := rfl
@[simp] theorem Engine.clearTxDone_frame (r : Engine) : r.clearTxDone.frame = r.frame := rfl
@[simp] theorem Engine.clearTxDone_duty (r : Engine) : r.clearTxDone.duty = r.duty := rfl
@[simp] theorem Engine.clearTxDone_txActive (r : Engine) : r.clearTxDone.txActive = r.txActive := rfl
@[simp] theorem Engine.clearTxDone_txIndex (r : Engine) : r.clearTxDone.txIndex = r.txIndex := rfl
@[simp] theorem Engine.clearTxDone_cmpOut (r : Engine) : r.clearTxDone.cmpOut = r.cmpOut := rfl
@[simp] theorem Engine.clearTxDone_txDonePending (r : Engine) : r.clearTxDone.txDonePending = false := rfl
@[simp] theorem Engine.clearTxDone_capArmed (r : Engine) : r.clearTxDone.capArmed = r.capArmed := rfl
@[simp] theorem Engine.clearTxDone_capRemaining (r : Engine) : r.clearTxDone.capRemaining = r.capRemaining := rfl
@[simp] theorem Engine.clearTxDone_edgeBuf (r : Engine) : r.clearTxDone.edgeBuf = r.edgeBuf := rfl
@[simp] theorem Engine.clearTxDone_capFullPending (r : Engine) : r.clearTxDone.capFullPending = r.capFullPending := rfl
@[simp] theorem Engine.clearTxDone_tick (r : Engine) : r.clearTxDone.tick = r.tick := rfl
@[simp] theorem Engine.clearTxDone_tMark (r : Engine) : r.clearTxDone.tMark = r.tMark := rfl
@[simp] theorem Engine.clearTxDone_erpm (r : Engine) : r.clearTxDone.erpm = r.erpm := rfl
@[simp] theorem Engine.clearTxDone_mrpm (r : Engine) : r.clearTxDone.mrpm = r.mrpm := rfl
@[simp] theorem Engine.clearTxDone_valid (r : Engine) : r.clearTxDone.valid = r.valid := rfl
@[simp] theorem Engine.clearTxDone_lastUpdate (r : Engine) : r.clearTxDone.lastUpdate = r.lastUpdate := rfl
@[simp] theorem Engine.clearTxDone_framesSent (r : Engine) : r.clearTxDone.framesSent = r.framesSent := rfl
@[simp] theorem Engine.clearTxDone_decodeOk (r : Engine) : r.clearTxDone.decodeOk = r.decodeOk := rfl
@[simp] theorem Engine.clearTxDone_decodeFail (r : Engine) : r.clearTxDone.decodeFail = r.decodeFail := rfl
@[simp] theorem Engine.clearTxDone_newData (r : Engine) : r.clearTxDone.newData = r.newData := rfl

/-! ### `Engine.finishCapture` -/

@[simp] theorem Engine.finishCapture_configured (r : Engine) : r.finishCapture.configured = r.configured := rfl
@[simp] theorem Engine.finishCapture_state (r : Engine) : r.finishCapture.state = r.state := rfl
@[simp] theorem Engine.finishCapture_link (r : Engine) : r.finishCapture.link = r.link := rfl
@[simp] theorem Engine.finishCapture_frame (r : Engine) : r.finishCapture.frame = r.frame := rfl
@[simp] theorem Engine.finishCapture_duty (r : Engine) : r.finishCapture.duty = r.duty := rfl
@[simp] theorem Engine.finishCapture_txActive (r : Engine) : r.finishCapture.txActive = r.txActive := rfl
@[simp] theorem Engine.finishCapture_txIndex (r : Engine) : r.finishCapture.txIndex = r.txIndex := rfl
@[simp] theorem Engine.finishCapture_cmpOut (r : Engine) : r.finishCapture.cmpOut = r.cmpOut := rfl
@[simp] theorem Engine.finishCapture_txDonePending (r : Engine) : r.finishCapture.txDonePending = r.txDonePending := rfl
@[simp] theorem Engine.finishCapture_capArmed (r : Engine) : r.finishCapture.capArmed = false := rfl
@[simp] theorem Engine.finishCapture_capRemaining (r : Engine) : r.finishCapture.capRemaining = r.capRemaining := rfl
@[simp] theorem Engine.finishCapture_edgeBuf (r : Engine) : r.finishCapture.edgeBuf = r.edgeBuf := rfl
@[simp] theorem Engine.finishCapture_capFullPending (r : Engine) : r.finishCapture.capFullPending = true := rfl
@[simp] theorem Engine.finishCapture_tick (r : Engine) : r.finishCapture.tick = r.tick := rfl
@[simp] theorem Engine.finishCapture_tMark (r : Engine) : r.finishCapture.tMark = r.tMark := rfl
@[simp] theorem Engine.finishCapture_erpm (r : Engine) : r.finishCapture.erpm = r.erpm := rfl
@[simp] theorem Engine.finishCapture_mrpm (r : Engine) : r.finishCapture.mrpm = r.mrpm := rfl
@[simp] theorem Engine.finishCapture_valid (r : Engine) : r.finishCapture.valid = r.valid := rfl
@[simp] theorem Engine.finishCapture_lastUpdate (r : Engine) : r.finishCapture.lastUpdate = r.lastUpdate := rfl
@[simp] theorem Engine.finishCapture_framesSent (r : Engine) : r.finishCapture.framesSent = r.framesSent := rfl
@[simp] theorem Engine.finishCapture_decodeOk (r : Engine) : r.finishCapture.decodeOk = r.decodeOk := rfl
@[simp] theorem Engine.finishCapture_decodeFail (r : Engine) : r.finishCapture.decodeFail = r.decodeFail := rfl
@[simp] theorem Engine.finishCapture_newData (r : Engine) : r.finishCapture.newData = r.newData := rfl

/-! ### `Engine.clearCapFull` -/

@[simp] theorem Engine.clearCapFull_configured (r : Engine) : r.clearCapFull.configured = r.configured := rfl
@[simp] theorem Engine.clearCapFull_state (r : Engine) : r.clearCapFull.state = r.state := rfl
@[simp] theorem Engine.clearCapFull_link (r : Engine) : r.clearCapFull.link = r.link := rfl
@[simp] theorem Engine.clearCapFull_frame (r : Engine) : r.clearCapFull.frame = r.frame := rfl
@[simp] theorem Engine.clearCapFull_duty (r : Engine) : r.clearCapFull.duty = r.duty := rfl
@[simp] theorem Engine.clearCapFull_txActive (r : Engine) : r.clearCapFull.txActive = r.txActive := rfl
@[simp] theorem Engine.clearCapFull_txIndex (r : Engine) : r.clearCapFull.txIndex = r.txIndex := rfl
@[simp] theorem Engine.clearCapFull_cmpOut (r : Engine) : r.clearCapFull.cmpOut = r.cmpOut := rfl
@[simp] theorem Engine.clearCapFull_txDonePending (r : Engine) : r.clearCapFull.txDonePending = r.txDonePending := rfl
@[simp] theorem Engine.clearCapFull_capArmed (r : Engine) : r.clearCapFull.capArmed = r.capArmed := rfl
@[simp] theorem Engine.clearCapFull_capRemaining (r : Engine) : r.clearCapFull.capRemaining = r.capRemaining := rfl
@[simp] theorem Engine.clearCapFull_edgeBuf (r : Engine) : r.clearCapFull.edgeBuf = r.edgeBuf := rfl
@[simp] theorem Engine.clearCapFull_capFullPending (r : Engine) : r.clearCapFull.capFullPending = false := rfl
@[simp] theorem Engine.clearCapFull_tick (r : Engine) : r.clearCapFull.tick = r.tick := rfl
@[simp] theorem Engine.clearCapFull_tMark (r : Engine) : r.clearCapFull.tMark = r.tMark := rfl
@[simp] theorem Engine.clearCapFull_erpm (r : Engine) : r.clearCapFull.erpm = r.erpm := rfl
@[simp] theorem Engine.clearCapFull_mrpm (r : Engine) : r.clearCapFull.mrpm = r.mrpm := rfl
@[simp] theorem Engine.clearCapFull_valid (r : Engine) : r.clearCapFull.valid = r.valid := rfl
@[simp] theorem Engine.clearCapFull_lastUpdate (r : Engine) : r.clearCapFull.lastUpdate = r.lastUpdate := rfl
@[simp] theorem Engine.clearCapFull_framesSent (r : Engine) : r.clearCapFull.framesSent = r.framesSent := rfl
@[simp] theorem Engine.clearCapFull_decodeOk (r : Engine) : r.clearCapFull.decodeOk = r.decodeOk := rfl
@[simp] theorem Engine.clearCapFull_decodeFail (r : Engine) : r.clearCapFull.decodeFail = r.decodeFail := rfl
@[simp] theorem Engine.clearCapFull_newData (r : Engine) : r.clearCapFull.newData = r.newData := rfl

/-! ### `Engine.clearNewData` -/

@[simp] theorem Engine.clearNewData_configured (r : Engine) : r.clearNewData.configured = r.configured := rfl
@[simp] theorem Engine.clearNewData_state (r : Engine) : r.clearNewData.state = r.state := rfl
@[simp] theorem Engine.clearNewData_link (r : Engine) : r.clearNewData.link = r.link := rfl
@[simp] theorem Engine.clearNewData_frame (r : Engine) : r.clearNewData.frame = r.frame := rfl
@[simp] theorem Engine.clearNewData_duty (r : Engine) : r.clearNewData.duty = r.duty := rfl
@[simp] theorem Engine.clearNewData_txActive (r : Engine) : r.clearNewData.txActive = r.txActive := rfl
@[simp] theorem Engine.clearNewData_txIndex (r : Engine) : r.clearNewData.txIndex = r.txIndex := rfl
@[simp] theorem Engine.clearNewData_cmpOut (r : Engine) : r.clearNewData.cmpOut = r.cmpOut := rfl
@[simp] theorem Engine.clearNewData_txDonePending (r : Engine) : r.clearNewData.txDonePending = r.txDonePending := rfl
@[simp] theorem Engine.clearNewData_capArmed (r : Engine) : r.clearNewData.capArmed = r.capArmed := rfl
@[simp] theorem Engine.clearNewData_capRemaining (r : Engine) : r.clearNewData.capRemaining = r.capRemaining := rfl
@[simp] theorem Engine.clearNewData_edgeBuf (r : Engine) : r.clearNewData.edgeBuf = r.edgeBuf := rfl
@[simp] theorem Engine.clearNewData_capFullPending (r : Engine) : r.clearNewData.capFullPending = r.capFullPending := rfl
@[simp] theorem Engine.clearNewData_tick (r : Engine) : r.clearNewData.tick = r.tick := rfl
@[simp] theorem Engine.clearNewData_tMark (r : Engine) : r.clearNewData.tMark = r.tMark := rfl
@[simp] theorem Engine.clearNewData_erpm (r : Engine) : r.clearNewData.erpm = r.erpm := rfl
@[simp] theorem Engine.clearNewData_mrpm (r : Engine) : r.clearNewData.mrpm = r.mrpm := rfl
@[simp] theorem Engine.clearNewData_valid (r : Engine) : r.clearNewData.valid = r.valid := rfl
@[simp] theorem Engine.clearNewData_lastUpdate (r : Engine) : r.clearNewData.lastUpdate = r.lastUpdate := rfl
@[simp] theorem Engine.clearNewData_framesSent (r : Engine) : r.clearNewData.framesSent = r.framesSent := rfl
@[simp] theorem Engine.clearNewData_decodeOk (r : Engine) : r.clearNewData.decodeOk = r.decodeOk := rfl
@[simp] theorem Engine.clearNewData_decodeFail (r : Engine) : r.clearNewData.decodeFail = r.decodeFail := rfl
@[simp] theorem Engine.clearNewData_newData (r : Engine) : r.clearNewData.newData = false := rfl

/-! ### `Engine.stopCapture` -/

@[simp] theorem Engine.stopCapture_configured (r : Engine) : r.stopCapture.configured = r.configured := rfl
@[simp] theorem Engine.stopCapture_state (r : Engine) : r.stopCapture.state = r.state := rfl
@[simp] theorem Engine.stopCapture_link (r : Engine) : r.stopCapture.link = r.link := rfl
@[simp] theorem Engine.stopCapture_frame (r : Engine) : r.stopCapture.frame = r.frame := rfl
@[simp] theorem Engine.stopCapture_duty (r : Engine) : r.stopCapture.duty = r.duty := rfl
@[simp] theorem Engine.stopCapture_txActive (r : Engine) : r.stopCapture.txActive = r.txActive := rfl
@[simp] theorem Engine.stopCapture_txIndex (r : Engine) : r.stopCapture.txIndex = r.txIndex := rfl
@[simp] theorem Engine.stopCapture_cmpOut (r : Engine) : r.stopCapture.cmpOut = r.cmpOut := rfl
@[simp] theorem Engine.stopCapture_txDonePending (r : Engine) : r.stopCapture.txDonePending = r.txDonePending := rfl
@[simp] theorem Engine.stopCapture_capArmed (r : Engine) : r.stopCapture.capArmed = false := rfl
@[simp] theorem Engine.stopCapture_capRemaining (r : Engine) : r.stopCapture.capRemaining = r.capRemaining := rfl
@[simp] theorem Engine.stopCapture_edgeBuf (r : Engine) : r.stopCapture.edgeBuf = r.edgeBuf := rfl
@[simp] theorem Engine.stopCapture_capFullPending (r : Engine) : r.stopCapture.capFullPending = r.capFullPending := rfl
@[simp] theorem Engine.stopCapture_tick (r : Engine) : r.stopCapture.tick = r.tick := rfl
@[simp] theorem Engine.stopCapture_tMark (r : Engine) : r.stopCapture.tMark = r.tMark := rfl
@[simp] theorem Engine.stopCapture_erpm (r : Engine) : r.stopCapture.erpm = r.erpm := rfl
@[simp] theorem Engine.stopCapture_mrpm (r : Engine) : r.stopCapture.mrpm = r.mrpm := rfl
@[simp] theorem Engine.stopCapture_valid (r : Engine) : r.stopCapture.valid = r.valid := rfl
@[simp] theorem Engine.stopCapture_lastUpdate (r : Engine) : r.stopCapture.lastUpdate = r.lastUpdate := rfl
@[simp] theorem Engine.stopCapture_framesSent (r : Engine) : r.stopCapture.framesSent = r.framesSent := rfl
@[simp] theorem Engine.stopCapture_decodeOk (r : Engine) : r.stopCapture.decodeOk = r.decodeOk := rfl
@[simp] theorem Engine.stopCapture_decodeFail (r : Engine) : r.stopCapture.decodeFail = r.decodeFail := rfl
@[simp] theorem Engine.stopCapture_newData (r : Engine) : r.stopCapture.newData = r.newData := rfl

/-! ### `Engine.countFailure` -/

@[simp] theorem Engine.countFailure_configured (r : Engine) : r.countFailure.configured = r.configured := rfl
@[simp] theorem Engine.countFailure_state (r : Engine) : r.countFailure.state = r.state := rfl
@[simp] theorem Engine.countFailure_link (r : Engine) : r.countFailure.link = r.link := rfl
@[simp] theorem Engine.countFailure_frame (r : Engine) : r.countFailure.frame = r.frame := rfl
@[simp] theorem Engine.countFailure_duty (r : Engine) : r.countFailure.duty = r.duty := rfl
@[simp] theorem Engine.countFailure_txActive (r : Engine) : r.countFailure.txActive = r.txActive := rfl
@[simp] theorem Engine.countFailure_txIndex (r : Engine) : r.countFailure.txIndex = r.txIndex := rfl
@[simp] theorem Engine.countFailure_cmpOut (r : Engine) : r.countFailure.cmpOut = r.cmpOut := rfl
@[simp] theorem Engine.countFailure_txDonePending (r : Engine) : r.countFailure.txDonePending = r.txDonePending := rfl
@[simp] theorem Engine.countFailure_capArmed (r : Engine) : r.countFailure.capArmed = r.capArmed := rfl
@[simp] theorem Engine.countFailure_capRemaining (r : Engine) : r.countFailure.capRemaining = r.capRemaining := rfl
@[simp] theorem Engine.countFailure_edgeBuf (r : Engine) : r.countFailure.edgeBuf = r.edgeBuf := rfl
@[simp] theorem Engine.countFailure_capFullPending (r : Engine) : r.countFailure.capFullPending = r.capFullPending := rfl
@[simp] theorem Engine.countFailure_tick (r : Engine) : r.countFailure.tick = r.tick := rfl
@[simp] theorem Engine.countFailure_tMark (r : Engine) : r.countFailure.tMark = r.tMark := rfl
@[simp] theorem Engine.countFailure_erpm (r : Engine) : r.countFailure.erpm = r.erpm := rfl
@[simp] theorem Engine.countFailure_mrpm (r : Engine) : r.countFailure.mrpm = r.mrpm := rfl
@[simp] theorem Engine.countFailure_valid (r : Engine) : r.countFailure.valid = r.valid := rfl
@[simp] theorem Engine.countFailure_lastUpdate (r : Engine) : r.countFailure.lastUpdate = r.lastUpdate := rfl
@[simp] theorem Engine.countFailure_framesSent (r : Engine) : r.countFailure.framesSent = r.framesSent := rfl
@[simp] theorem Engine.countFailure_decodeOk (r : Engine) : r.countFailure.decodeOk = r.decodeOk := rfl
@[simp] theorem Engine.countFailure_decodeFail (r : Engine) : r.countFailure.decodeFail = r.decodeFail + 1#32 := rfl
@[simp] theorem Engine.countFailure_newData (r : Engine) : r.countFailure.newData = r.newData := rfl

/-! ### `Engine.enterAwaiting` -/

@[simp] theorem Engine.enterAwaiting_configured (r : Engine) : r.enterAwaiting.configured = r.configured := rfl
@[simp] theorem Engine.enterAwaiting_state (r : Engine) : r.enterAwaiting.state = stAwaiting := rfl
@[simp] theorem Engine.enterAwaiting_link (r : Engine) : r.enterAwaiting.link = r.link := rfl
@[simp] theorem Engine.enterAwaiting_frame (r : Engine) : r.enterAwaiting.frame = r.frame := rfl
@[simp] theorem Engine.enterAwaiting_duty (r : Engine) : r.enterAwaiting.duty = r.duty := rfl
@[simp] theorem Engine.enterAwaiting_txActive (r : Engine) : r.enterAwaiting.txActive = r.txActive := rfl
@[simp] theorem Engine.enterAwaiting_txIndex (r : Engine) : r.enterAwaiting.txIndex = r.txIndex := rfl
@[simp] theorem Engine.enterAwaiting_cmpOut (r : Engine) : r.enterAwaiting.cmpOut = r.cmpOut := rfl
@[simp] theorem Engine.enterAwaiting_txDonePending (r : Engine) : r.enterAwaiting.txDonePending = r.txDonePending := rfl
@[simp] theorem Engine.enterAwaiting_capArmed (r : Engine) : r.enterAwaiting.capArmed = r.capArmed := rfl
@[simp] theorem Engine.enterAwaiting_capRemaining (r : Engine) : r.enterAwaiting.capRemaining = r.capRemaining := rfl
@[simp] theorem Engine.enterAwaiting_edgeBuf (r : Engine) : r.enterAwaiting.edgeBuf = r.edgeBuf := rfl
@[simp] theorem Engine.enterAwaiting_capFullPending (r : Engine) : r.enterAwaiting.capFullPending = r.capFullPending := rfl
@[simp] theorem Engine.enterAwaiting_tick (r : Engine) : r.enterAwaiting.tick = r.tick := rfl
@[simp] theorem Engine.enterAwaiting_tMark (r : Engine) : r.enterAwaiting.tMark = r.tick := rfl
@[simp] theorem Engine.enterAwaiting_erpm (r : Engine) : r.enterAwaiting.erpm = r.erpm := rfl
@[simp] theorem Engine.enterAwaiting_mrpm (r : Engine) : r.enterAwaiting.mrpm = r.mrpm := rfl
@[simp] theorem Engine.enterAwaiting_valid (r : Engine) : r.enterAwaiting.valid = r.valid := rfl
@[simp] theorem Engine.enterAwaiting_lastUpdate (r : Engine) : r.enterAwaiting.lastUpdate = r.lastUpdate := rfl
@[simp] theorem Engine.enterAwaiting_framesSent (r : Engine) : r.enterAwaiting.framesSent = r.framesSent := rfl
@[simp] theorem Engine.enterAwaiting_decodeOk (r : Engine) : r.enterAwaiting.decodeOk = r.decodeOk := rfl
@[simp] theorem Engine.enterAwaiting_decodeFail (r : Engine) : r.enterAwaiting.decodeFail = r.decodeFail := rfl
@[simp] theorem Engine.enterAwaiting_newData (r : Engine) : r.enterAwaiting.newData = r.newData := rfl

/-! ### `Engine.enterDecoding` -/

@[simp] theorem Engine.enterDecoding_configured (r : Engine) : r.enterDecoding.configured = r.configured := rfl
@[simp] theorem Engine.enterDecoding_state (r : Engine) : r.enterDecoding.state = stDecoding := rfl
@[simp] theorem Engine.enterDecoding_link (r : Engine) : r.enterDecoding.link = r.link := rfl
@[simp] theorem Engine.enterDecoding_frame (r : Engine) : r.enterDecoding.frame = r.frame := rfl
@[simp] theorem Engine.enterDecoding_duty (r : Engine) : r.enterDecoding.duty = r.duty := rfl
@[simp] theorem Engine.enterDecoding_txActive (r : Engine) : r.enterDecoding.txActive = r.txActive := rfl
@[simp] theorem Engine.enterDecoding_txIndex (r : Engine) : r.enterDecoding.txIndex = r.txIndex := rfl
@[simp] theorem Engine.enterDecoding_cmpOut (r : Engine) : r.enterDecoding.cmpOut = r.cmpOut := rfl
@[simp] theorem Engine.enterDecoding_txDonePending (r : Engine) : r.enterDecoding.txDonePending = r.txDonePending := rfl
@[simp] theorem Engine.enterDecoding_capArmed (r : Engine) : r.enterDecoding.capArmed = false := rfl
@[simp] theorem Engine.enterDecoding_capRemaining (r : Engine) : r.enterDecoding.capRemaining = r.capRemaining := rfl
@[simp] theorem Engine.enterDecoding_edgeBuf (r : Engine) : r.enterDecoding.edgeBuf = r.edgeBuf := rfl
@[simp] theorem Engine.enterDecoding_capFullPending (r : Engine) : r.enterDecoding.capFullPending = r.capFullPending := rfl
@[simp] theorem Engine.enterDecoding_tick (r : Engine) : r.enterDecoding.tick = r.tick := rfl
@[simp] theorem Engine.enterDecoding_tMark (r : Engine) : r.enterDecoding.tMark = r.tMark := rfl
@[simp] theorem Engine.enterDecoding_erpm (r : Engine) : r.enterDecoding.erpm = r.erpm := rfl
@[simp] theorem Engine.enterDecoding_mrpm (r : Engine) : r.enterDecoding.mrpm = r.mrpm := rfl
@[simp] theorem Engine.enterDecoding_valid (r : Engine) : r.enterDecoding.valid = r.valid := rfl
@[simp] theorem Engine.enterDecoding_lastUpdate (r : Engine) : r.enterDecoding.lastUpdate = r.lastUpdate := rfl
@[simp] theorem Engine.enterDecoding_framesSent (r : Engine) : r.enterDecoding.framesSent = r.framesSent := rfl
@[simp] theorem Engine.enterDecoding_decodeOk (r : Engine) : r.enterDecoding.decodeOk = r.decodeOk := rfl
@[simp] theorem Engine.enterDecoding_decodeFail (r : Engine) : r.enterDecoding.decodeFail = r.decodeFail := rfl
@[simp] theorem Engine.enterDecoding_newData (r : Engine) : r.enterDecoding.newData = r.newData := rfl

/-! ### `Engine.switchToOutput` -/

@[simp] theorem Engine.switchToOutput_configured (c : Config) (r : Engine) : (r.switchToOutput c).configured = r.configured := rfl
@[simp] theorem Engine.switchToOutput_state (c : Config) (r : Engine) : (r.switchToOutput c).state = r.state := rfl
@[simp] theorem Engine.switchToOutput_link (c : Config) (r : Engine) : (r.switchToOutput c).link = .output := rfl
@[simp] theorem Engine.switchToOutput_frame (c : Config) (r : Engine) : (r.switchToOutput c).frame = r.frame := rfl
@[simp] theorem Engine.switchToOutput_duty (c : Config) (r : Engine) : (r.switchToOutput c).duty = r.duty := rfl
@[simp] theorem Engine.switchToOutput_txActive (c : Config) (r : Engine) : (r.switchToOutput c).txActive = r.txActive := rfl
@[simp] theorem Engine.switchToOutput_txIndex (c : Config) (r : Engine) : (r.switchToOutput c).txIndex = r.txIndex := rfl
@[simp] theorem Engine.switchToOutput_cmpOut (c : Config) (r : Engine) : (r.switchToOutput c).cmpOut = idleVal c := rfl
@[simp] theorem Engine.switchToOutput_txDonePending (c : Config) (r : Engine) : (r.switchToOutput c).txDonePending = r.txDonePending := rfl
@[simp] theorem Engine.switchToOutput_capArmed (c : Config) (r : Engine) : (r.switchToOutput c).capArmed = false := rfl
@[simp] theorem Engine.switchToOutput_capRemaining (c : Config) (r : Engine) : (r.switchToOutput c).capRemaining = r.capRemaining := rfl
@[simp] theorem Engine.switchToOutput_edgeBuf (c : Config) (r : Engine) : (r.switchToOutput c).edgeBuf = r.edgeBuf := rfl
@[simp] theorem Engine.switchToOutput_capFullPending (c : Config) (r : Engine) : (r.switchToOutput c).capFullPending = r.capFullPending := rfl
@[simp] theorem Engine.switchToOutput_tick (c : Config) (r : Engine) : (r.switchToOutput c).tick = r.tick := rfl
@[simp] theorem Engine.switchToOutput_tMark (c : Config) (r : Engine) : (r.switchToOutput c).tMark = r.tMark := rfl
@[simp] theorem Engine.switchToOutput_erpm (c : Config) (r : Engine) : (r.switchToOutput c).erpm = r.erpm := rfl
@[simp] theorem Engine.switchToOutput_mrpm (c : Config) (r : Engine) : (r.switchToOutput c).mrpm = r.mrpm := rfl
@[simp] theorem Engine.switchToOutput_valid (c : Config) (r : Engine) : (r.switchToOutput c).valid = r.valid := rfl
@[simp] theorem Engine.switchToOutput_lastUpdate (c : Config) (r : Engine) : (r.switchToOutput c).lastUpdate = r.lastUpdate := rfl
@[simp] theorem Engine.switchToOutput_framesSent (c : Config) (r : Engine) : (r.switchToOutput c).framesSent = r.framesSent := rfl
@[simp] theorem Engine.switchToOutput_decodeOk (c : Config) (r : Engine) : (r.switchToOutput c).decodeOk = r.decodeOk := rfl
@[simp] theorem Engine.switchToOutput_decodeFail (c : Config) (r : Engine) : (r.switchToOutput c).decodeFail = r.decodeFail := rfl
@[simp] theorem Engine.switchToOutput_newData (c : Config) (r : Engine) : (r.switchToOutput c).newData = r.newData := rfl

/-! ### `Engine.armCapture` -/

@[simp] theorem Engine.armCapture_configured (c : Config) (r : Engine) : (r.armCapture c).configured = r.configured := rfl
@[simp] theorem Engine.armCapture_state (c : Config) (r : Engine) : (r.armCapture c).state = r.state := rfl
@[simp] theorem Engine.armCapture_link (c : Config) (r : Engine) : (r.armCapture c).link = r.link := rfl
@[simp] theorem Engine.armCapture_frame (c : Config) (r : Engine) : (r.armCapture c).frame = r.frame := rfl
@[simp] theorem Engine.armCapture_duty (c : Config) (r : Engine) : (r.armCapture c).duty = r.duty := rfl
@[simp] theorem Engine.armCapture_txActive (c : Config) (r : Engine) : (r.armCapture c).txActive = r.txActive := rfl
@[simp] theorem Engine.armCapture_txIndex (c : Config) (r : Engine) : (r.armCapture c).txIndex = r.txIndex := rfl
@[simp] theorem Engine.armCapture_cmpOut (c : Config) (r : Engine) : (r.armCapture c).cmpOut = r.cmpOut := rfl
@[simp] theorem Engine.armCapture_txDonePending (c : Config) (r : Engine) : (r.armCapture c).txDonePending = r.txDonePending := rfl
@[simp] theorem Engine.armCapture_capArmed (c : Config) (r : Engine) : (r.armCapture c).capArmed = true := rfl
@[simp] theorem Engine.armCapture_capRemaining (c : Config) (r : Engine) : (r.armCapture c).capRemaining = BitVec.ofNat 6 c.edgeCap := rfl
@[simp] theorem Engine.armCapture_edgeBuf (c : Config) (r : Engine) : (r.armCapture c).edgeBuf = List.replicate c.edgeCap 0 := rfl
@[simp] theorem Engine.armCapture_capFullPending (c : Config) (r : Engine) : (r.armCapture c).capFullPending = false := rfl
@[simp] theorem Engine.armCapture_tick (c : Config) (r : Engine) : (r.armCapture c).tick = r.tick := rfl
@[simp] theorem Engine.armCapture_tMark (c : Config) (r : Engine) : (r.armCapture c).tMark = r.tMark := rfl
@[simp] theorem Engine.armCapture_erpm (c : Config) (r : Engine) : (r.armCapture c).erpm = r.erpm := rfl
@[simp] theorem Engine.armCapture_mrpm (c : Config) (r : Engine) : (r.armCapture c).mrpm = r.mrpm := rfl
@[simp] theorem Engine.armCapture_valid (c : Config) (r : Engine) : (r.armCapture c).valid = r.valid := rfl
@[simp] theorem Engine.armCapture_lastUpdate (c : Config) (r : Engine) : (r.armCapture c).lastUpdate = r.lastUpdate := rfl
@[simp] theorem Engine.armCapture_framesSent (c : Config) (r : Engine) : (r.armCapture c).framesSent = r.framesSent := rfl
@[simp] theorem Engine.armCapture_decodeOk (c : Config) (r : Engine) : (r.armCapture c).decodeOk = r.decodeOk := rfl
@[simp] theorem Engine.armCapture_decodeFail (c : Config) (r : Engine) : (r.armCapture c).decodeFail = r.decodeFail := rfl
@[simp] theorem Engine.armCapture_newData (c : Config) (r : Engine) : (r.armCapture c).newData = r.newData := rfl

/-! ### `Engine.publish` -/

@[simp] theorem Engine.publish_configured (c : Config) (p : BitVec 12) (r : Engine) : (r.publish c p).configured = r.configured := rfl
@[simp] theorem Engine.publish_state (c : Config) (p : BitVec 12) (r : Engine) : (r.publish c p).state = r.state := rfl
@[simp] theorem Engine.publish_link (c : Config) (p : BitVec 12) (r : Engine) : (r.publish c p).link = r.link := rfl
@[simp] theorem Engine.publish_frame (c : Config) (p : BitVec 12) (r : Engine) : (r.publish c p).frame = r.frame := rfl
@[simp] theorem Engine.publish_duty (c : Config) (p : BitVec 12) (r : Engine) : (r.publish c p).duty = r.duty := rfl
@[simp] theorem Engine.publish_txActive (c : Config) (p : BitVec 12) (r : Engine) : (r.publish c p).txActive = r.txActive := rfl
@[simp] theorem Engine.publish_txIndex (c : Config) (p : BitVec 12) (r : Engine) : (r.publish c p).txIndex = r.txIndex := rfl
@[simp] theorem Engine.publish_cmpOut (c : Config) (p : BitVec 12) (r : Engine) : (r.publish c p).cmpOut = r.cmpOut := rfl
@[simp] theorem Engine.publish_txDonePending (c : Config) (p : BitVec 12) (r : Engine) : (r.publish c p).txDonePending = r.txDonePending := rfl
@[simp] theorem Engine.publish_capArmed (c : Config) (p : BitVec 12) (r : Engine) : (r.publish c p).capArmed = r.capArmed := rfl
@[simp] theorem Engine.publish_capRemaining (c : Config) (p : BitVec 12) (r : Engine) : (r.publish c p).capRemaining = r.capRemaining := rfl
@[simp] theorem Engine.publish_edgeBuf (c : Config) (p : BitVec 12) (r : Engine) : (r.publish c p).edgeBuf = r.edgeBuf := rfl
@[simp] theorem Engine.publish_capFullPending (c : Config) (p : BitVec 12) (r : Engine) : (r.publish c p).capFullPending = r.capFullPending := rfl
@[simp] theorem Engine.publish_tick (c : Config) (p : BitVec 12) (r : Engine) : (r.publish c p).tick = r.tick := rfl
@[simp] theorem Engine.publish_tMark (c : Config) (p : BitVec 12) (r : Engine) : (r.publish c p).tMark = r.tMark := rfl
@[simp] theorem Engine.publish_erpm (c : Config) (p : BitVec 12) (r : Engine) : (r.publish c p).erpm = erpmOf p := rfl
@[simp] theorem Engine.publish_mrpm (c : Config) (p : BitVec 12) (r : Engine) : (r.publish c p).mrpm = mrpmOf c p := rfl
@[simp] theorem Engine.publish_valid (c : Config) (p : BitVec 12) (r : Engine) : (r.publish c p).valid = true := rfl
@[simp] theorem Engine.publish_lastUpdate (c : Config) (p : BitVec 12) (r : Engine) : (r.publish c p).lastUpdate = r.tick := rfl
@[simp] theorem Engine.publish_framesSent (c : Config) (p : BitVec 12) (r : Engine) : (r.publish c p).framesSent = r.framesSent := rfl
@[simp] theorem Engine.publish_decodeOk (c : Config) (p : BitVec 12) (r : Engine) : (r.publish c p).decodeOk = r.decodeOk + 1#32 := rfl
@[simp] theorem Engine.publish_decodeFail (c : Config) (p : BitVec 12) (r : Engine) : (r.publish c p).decodeFail = r.decodeFail := rfl
@[simp] theorem Engine.publish_newData (c : Config) (p : BitVec 12) (r : Engine) : (r.publish c p).newData = true := rfl

/-! ### `Engine.advanceTick` -/

@[simp] theorem Engine.advanceTick_configured (c : Config) (k : Arg) (r : Engine) : (r.advanceTick c k).configured = r.configured := rfl
@[simp] theorem Engine.advanceTick_state (c : Config) (k : Arg) (r : Engine) : (r.advanceTick c k).state = r.state := rfl
@[simp] theorem Engine.advanceTick_link (c : Config) (k : Arg) (r : Engine) : (r.advanceTick c k).link = r.link := rfl
@[simp] theorem Engine.advanceTick_frame (c : Config) (k : Arg) (r : Engine) : (r.advanceTick c k).frame = r.frame := rfl
@[simp] theorem Engine.advanceTick_duty (c : Config) (k : Arg) (r : Engine) : (r.advanceTick c k).duty = r.duty := rfl
@[simp] theorem Engine.advanceTick_txActive (c : Config) (k : Arg) (r : Engine) : (r.advanceTick c k).txActive = r.txActive := rfl
@[simp] theorem Engine.advanceTick_txIndex (c : Config) (k : Arg) (r : Engine) : (r.advanceTick c k).txIndex = r.txIndex := rfl
@[simp] theorem Engine.advanceTick_cmpOut (c : Config) (k : Arg) (r : Engine) : (r.advanceTick c k).cmpOut = r.cmpOut := rfl
@[simp] theorem Engine.advanceTick_txDonePending (c : Config) (k : Arg) (r : Engine) : (r.advanceTick c k).txDonePending = r.txDonePending := rfl
@[simp] theorem Engine.advanceTick_capArmed (c : Config) (k : Arg) (r : Engine) : (r.advanceTick c k).capArmed = r.capArmed := rfl
@[simp] theorem Engine.advanceTick_capRemaining (c : Config) (k : Arg) (r : Engine) : (r.advanceTick c k).capRemaining = r.capRemaining := rfl
@[simp] theorem Engine.advanceTick_edgeBuf (c : Config) (k : Arg) (r : Engine) : (r.advanceTick c k).edgeBuf = r.edgeBuf := rfl
@[simp] theorem Engine.advanceTick_capFullPending (c : Config) (k : Arg) (r : Engine) : (r.advanceTick c k).capFullPending = r.capFullPending := rfl
@[simp] theorem Engine.advanceTick_tick (c : Config) (k : Arg) (r : Engine) : (r.advanceTick c k).tick = tickAdd c.tickWidth r.tick k.toNat := rfl
@[simp] theorem Engine.advanceTick_tMark (c : Config) (k : Arg) (r : Engine) : (r.advanceTick c k).tMark = r.tMark := rfl
@[simp] theorem Engine.advanceTick_erpm (c : Config) (k : Arg) (r : Engine) : (r.advanceTick c k).erpm = r.erpm := rfl
@[simp] theorem Engine.advanceTick_mrpm (c : Config) (k : Arg) (r : Engine) : (r.advanceTick c k).mrpm = r.mrpm := rfl
@[simp] theorem Engine.advanceTick_valid (c : Config) (k : Arg) (r : Engine) : (r.advanceTick c k).valid = r.valid := rfl
@[simp] theorem Engine.advanceTick_lastUpdate (c : Config) (k : Arg) (r : Engine) : (r.advanceTick c k).lastUpdate = r.lastUpdate := rfl
@[simp] theorem Engine.advanceTick_framesSent (c : Config) (k : Arg) (r : Engine) : (r.advanceTick c k).framesSent = r.framesSent := rfl
@[simp] theorem Engine.advanceTick_decodeOk (c : Config) (k : Arg) (r : Engine) : (r.advanceTick c k).decodeOk = r.decodeOk := rfl
@[simp] theorem Engine.advanceTick_decodeFail (c : Config) (k : Arg) (r : Engine) : (r.advanceTick c k).decodeFail = r.decodeFail := rfl
@[simp] theorem Engine.advanceTick_newData (c : Config) (k : Arg) (r : Engine) : (r.advanceTick c k).newData = r.newData := rfl

/-! ### `Engine.initialised` -/

@[simp] theorem Engine.initialised_configured (c : Config) (r : Engine) : (r.initialised c).configured = true := rfl
@[simp] theorem Engine.initialised_state (c : Config) (r : Engine) : (r.initialised c).state = stIdle := rfl
@[simp] theorem Engine.initialised_link (c : Config) (r : Engine) : (r.initialised c).link = .output := rfl
@[simp] theorem Engine.initialised_frame (c : Config) (r : Engine) : (r.initialised c).frame = 0#16 := rfl
@[simp] theorem Engine.initialised_duty (c : Config) (r : Engine) : (r.initialised c).duty = List.replicate dutyLen (idleVal c) := rfl
@[simp] theorem Engine.initialised_txActive (c : Config) (r : Engine) : (r.initialised c).txActive = false := rfl
@[simp] theorem Engine.initialised_txIndex (c : Config) (r : Engine) : (r.initialised c).txIndex = 0#5 := rfl
@[simp] theorem Engine.initialised_cmpOut (c : Config) (r : Engine) : (r.initialised c).cmpOut = idleVal c := rfl
@[simp] theorem Engine.initialised_txDonePending (c : Config) (r : Engine) : (r.initialised c).txDonePending = false := rfl
@[simp] theorem Engine.initialised_capArmed (c : Config) (r : Engine) : (r.initialised c).capArmed = false := rfl
@[simp] theorem Engine.initialised_capRemaining (c : Config) (r : Engine) : (r.initialised c).capRemaining = BitVec.ofNat 6 c.edgeCap := rfl
@[simp] theorem Engine.initialised_edgeBuf (c : Config) (r : Engine) : (r.initialised c).edgeBuf = List.replicate c.edgeCap 0 := rfl
@[simp] theorem Engine.initialised_capFullPending (c : Config) (r : Engine) : (r.initialised c).capFullPending = false := rfl
@[simp] theorem Engine.initialised_tick (c : Config) (r : Engine) : (r.initialised c).tick = r.tick := rfl
@[simp] theorem Engine.initialised_tMark (c : Config) (r : Engine) : (r.initialised c).tMark = 0 := rfl
@[simp] theorem Engine.initialised_erpm (c : Config) (r : Engine) : (r.initialised c).erpm = 0#32 := rfl
@[simp] theorem Engine.initialised_mrpm (c : Config) (r : Engine) : (r.initialised c).mrpm = 0#32 := rfl
@[simp] theorem Engine.initialised_valid (c : Config) (r : Engine) : (r.initialised c).valid = false := rfl
@[simp] theorem Engine.initialised_lastUpdate (c : Config) (r : Engine) : (r.initialised c).lastUpdate = 0 := rfl
@[simp] theorem Engine.initialised_framesSent (c : Config) (r : Engine) : (r.initialised c).framesSent = 0#32 := rfl
@[simp] theorem Engine.initialised_decodeOk (c : Config) (r : Engine) : (r.initialised c).decodeOk = 0#32 := rfl
@[simp] theorem Engine.initialised_decodeFail (c : Config) (r : Engine) : (r.initialised c).decodeFail = 0#32 := rfl
@[simp] theorem Engine.initialised_newData (c : Config) (r : Engine) : (r.initialised c).newData = false := rfl

/-! ### `State.answer`, `State.present`, `State.spendInitDraw` -/

@[simp] theorem State.answer_cfg (s : State) (r : Engine) (resp : Response) : (s.answer r resp).cfg = s.cfg := rfl
@[simp] theorem State.answer_r (s : State) (r : Engine) (resp : Response) : (s.answer r resp).r = r := rfl
@[simp] theorem State.answer_stimuli (s : State) (r : Engine) (resp : Response) : (s.answer r resp).stimuli = s.stimuli := rfl
@[simp] theorem State.answer_initAnswers (s : State) (r : Engine) (resp : Response) : (s.answer r resp).initAnswers = s.initAnswers := rfl
@[simp] theorem State.answer_initDraws (s : State) (r : Engine) (resp : Response) : (s.answer r resp).initDraws = s.initDraws := rfl
@[simp] theorem State.answer_response (s : State) (r : Engine) (resp : Response) : (s.answer r resp).response = resp := rfl
@[simp] theorem State.present_cfg (s : State) (w : StimWord) : (s.present w).cfg = s.cfg := rfl
@[simp] theorem State.present_r (s : State) (w : StimWord) : (s.present w).r = s.r := rfl
@[simp] theorem State.present_stimuli (s : State) (w : StimWord) : (s.present w).stimuli = w :: s.stimuli := rfl
@[simp] theorem State.present_initAnswers (s : State) (w : StimWord) : (s.present w).initAnswers = s.initAnswers := rfl
@[simp] theorem State.present_initDraws (s : State) (w : StimWord) : (s.present w).initDraws = s.initDraws := rfl
@[simp] theorem State.present_response (s : State) (w : StimWord) : (s.present w).response = s.response := rfl
@[simp] theorem State.spendInitDraw_cfg (s : State) : s.spendInitDraw.cfg = s.cfg := by
  unfold State.spendInitDraw; split <;> rfl
@[simp] theorem State.spendInitDraw_r (s : State) : s.spendInitDraw.r = s.r := by
  unfold State.spendInitDraw; split <;> rfl
@[simp] theorem State.spendInitDraw_stimuli (s : State) : s.spendInitDraw.stimuli = s.stimuli := by
  unfold State.spendInitDraw; split <;> rfl
@[simp] theorem State.spendInitDraw_response (s : State) : s.spendInitDraw.response = s.response := by
  unfold State.spendInitDraw; split <;> rfl

end Sys2Proof.Machine
end

