-- ==== Sys2Proof/Laws/Ops.lean ====
section
/-! SUPPORT. One specification lemma for each shared operation: everything it can do, said once. Proofs cite these
instead of unfolding the operation. -/

namespace Sys2Proof.Machine

/-! ### The gates and the endings of a step -/

theorem State.conclude_next {s t : State} {res : Except Fault Engine} :
    s.conclude res = .next t ↔ ∃ r, res = .ok r ∧ t = s.answer r .nothing := by
  cases res <;> simp [State.conclude, eq_comm]

theorem State.conclude_fault {s : State} {res : Except Fault Engine} {f : Fault} :
    s.conclude res = .fault f ↔ res = .error f := by
  cases res <;> simp [State.conclude]

theorem State.conclude_not_refused {s : State} {res : Except Fault Engine} {why : Refusal} :
    s.conclude res ≠ .refused why := by
  cases res <;> simp [State.conclude]

theorem State.ifConfigured_next {s t : State} {k : Host.Outcome State Fault Refusal} :
    s.ifConfigured k = .next t ↔ s.r.configured = true ∧ k = .next t := by
  unfold State.ifConfigured; split <;> simp_all

theorem State.ifConfigured_fault {s : State} {k : Host.Outcome State Fault Refusal} {f : Fault} :
    s.ifConfigured k = .fault f ↔ s.r.configured = true ∧ k = .fault f := by
  unfold State.ifConfigured; split <;> simp_all

@[simp] theorem State.ifConfigured_of_configured {s : State} {k : Host.Outcome State Fault Refusal}
    (h : s.r.configured = true) : s.ifConfigured k = k := by simp [State.ifConfigured, h]

@[simp] theorem State.ifConfigured_of_unconfigured {s : State} {k : Host.Outcome State Fault Refusal}
    (h : s.r.configured = false) : s.ifConfigured k = .refused .notConfigured := by simp [State.ifConfigured, h]

theorem State.ifEnabled_next {s t : State} {e : Bool} {k : Host.Outcome State Fault Refusal} :
    s.ifEnabled e k = .next t ↔ s.r.configured = true ∧ e = true ∧ k = .next t := by
  cases e <;> simp [State.ifEnabled, State.ifConfigured_next]

theorem State.ifEnabled_fault {s : State} {e : Bool} {k : Host.Outcome State Fault Refusal} {f : Fault} :
    s.ifEnabled e k = .fault f ↔ s.r.configured = true ∧ e = true ∧ k = .fault f := by
  cases e <;> simp [State.ifEnabled, State.ifConfigured_fault]

/-! ### Tick arithmetic -/

theorem tickAdd_lt (w : Nat) (a k : Nat) : tickAdd w a k < 2 ^ w := Nat.mod_lt _ (Nat.two_pow_pos w)

theorem tickDelta_eq_mod {w : Nat} {a b : Nat} (ha : a < 2 ^ w) (hb : b < 2 ^ w) :
    tickDelta w a b = (b + 2 ^ w - a) % 2 ^ w := by
  unfold tickDelta
  split
  · rw [Nat.mod_eq_of_lt (by omega)]
  · rw [show b + 2 ^ w - a = (b - a) + 2 ^ w by omega, Nat.add_mod_right, Nat.mod_eq_of_lt (by omega)]

/-! ### Issue, slots, the line mux -/

theorem Engine.issue_idle {c : Config} {v : Arg} {b : Bool} {r : Engine} (h : r.state = stIdle) :
    r.issue c v b =
      { r with
        frame := encodeFrame v b, duty := dutyMap c (encodeFrame v b), framesSent := r.framesSent + 1#32
        txIndex := 0#5, txActive := true, state := stSending } := by
  simp only [Engine.issue, if_pos h]; rfl

theorem Engine.issue_busy {c : Config} {v : Arg} {b : Bool} {r : Engine} (h : r.state ≠ stIdle) :
    r.issue c v b = r := if_neg h

theorem Engine.txSlot_ok {r r' : Engine} :
    r.txSlot = .ok r' ↔ ∃ d, r.duty[r.txIndex.toNat]? = some d ∧
      r' = { r with
        cmpOut := d, txIndex := r.txIndex + 1#5
        txActive := if r.txIndex.toNat = 16 then false else r.txActive
        txDonePending := if r.txIndex.toNat = 16 then true else r.txDonePending } := by
  unfold Engine.txSlot
  cases h : r.duty[r.txIndex.toNat]? with
  | none => simp
  | some d =>
    simp only [Except.ok.injEq, Option.some.injEq, exists_eq_left']
    rw [eq_comm (b := r')]
    by_cases hi : r.txIndex.toNat = 16
    · simp [hi, Engine.finishTx]
    · simp [hi, show ¬ r.txIndex.toNat + 1 = dutyLen from fun h => hi (by unfold dutyLen at h; omega)]

theorem Engine.txSlot_error {r : Engine} {f : Fault} :
    r.txSlot = .error f ↔ r.duty.length ≤ r.txIndex.toNat ∧ f = .indexFault := by
  unfold Engine.txSlot
  cases h : r.duty[r.txIndex.toNat]? with
  | none => simp_all [eq_comm]
  | some d =>
    have := (List.getElem?_eq_some_iff.mp h).1
    simp; omega

theorem Engine.switchToInput_ok {r r' : Engine} :
    r.switchToInput = .ok r' ↔ r.txActive = false ∧ r' = { r with link := .input } := by
  unfold Engine.switchToInput
  split <;> simp_all [eq_comm (b := r')]

/-! ### Capture -/

theorem Engine.captureOpen_iff {r : Engine} :
    r.captureOpen = true ↔
      r.configured = true ∧ r.link = .input ∧ r.capArmed = true ∧ r.capRemaining ≠ 0#6 := by
  simp [Engine.captureOpen, and_assoc]

theorem Engine.captureEdge_ok {c : Config} {r r' : Engine} :
    r.captureEdge c = .ok r' ↔
      r.capRemaining.toNat ≤ c.edgeCap ∧ r.edges c < r.edgeBuf.length ∧
      r' = { r with
        edgeBuf := r.edgeBuf.set (r.edges c) r.tick, capRemaining := r.capRemaining - 1#6
        capArmed := if r.capRemaining = 1#6 then false else r.capArmed
        capFullPending := if r.capRemaining = 1#6 then true else r.capFullPending } := by
  unfold Engine.captureEdge
  split
  · simp; omega
  · rename_i h
    have h1 : r.capRemaining.toNat ≤ c.edgeCap := by omega
    have h2 : r.edges c < r.edgeBuf.length := by omega
    simp only [Except.ok.injEq, h1, h2, true_and]
    rw [eq_comm (b := r')]
    by_cases hc : r.capRemaining = 1#6 <;> simp [hc, Engine.finishCapture]

theorem Engine.edge_ok {c : Config} {r r' : Engine} :
    r.edge c = .ok r' ↔
      (r.captureOpen = true ∧ r.captureEdge c = .ok r') ∨ (r.captureOpen = false ∧ r' = r) := by
  unfold Engine.edge; split <;> simp_all [eq_comm (b := r')]

theorem Engine.capturedEdges_ok {c : Config} {r : Engine} {buf : List Nat} :
    r.capturedEdges c = .ok buf ↔ r.edges c ≤ r.edgeBuf.length ∧ buf = r.edgeBuf.take (r.edges c) := by
  unfold Engine.capturedEdges
  split <;> rename_i h <;> simp [eq_comm (b := buf)] <;> omega

/-- DECODE reads the first `n` entries only, so what follows them in the buffer does not matter (R113). -/
theorem decodeTelemetry_take (c : Config) (buf : List Nat) (n : Nat) :
    decodeTelemetry c (buf.take n) n = decodeTelemetry c buf n := by
  have h : (buf.take n).take n = buf.take n := by rw [List.take_take, Nat.min_self]
  unfold decodeTelemetry runs
  rw [h]

/-! ### The periodic driver -/

theorem Engine.advanceAwaiting_ok {c : Config} {r r' : Engine} :
    r.advanceAwaiting c = .ok r' ↔
      (c.responseDelayTicks ≤ r.elapsed c ∧ r.txActive = false ∧
        r' = { r with
          link := .input, edgeBuf := List.replicate c.edgeCap 0, capRemaining := BitVec.ofNat 6 c.edgeCap
          capFullPending := false, capArmed := true, tMark := r.tick, state := stReceiving }) ∨
      (¬ c.responseDelayTicks ≤ r.elapsed c ∧ r' = r) := by
  unfold Engine.advanceAwaiting Engine.switchToInput
  by_cases h : c.responseDelayTicks ≤ r.elapsed c
  · by_cases ht : r.txActive = true <;> simp [h, ht, Engine.armCapture, eq_comm (b := r')]
  · simp only [h, if_false, false_and, false_or, not_false_eq_true, true_and, Except.ok.injEq, eq_comm (b := r')]

theorem Engine.advanceReceiving_eq (c : Config) (r : Engine) :
    r.advanceReceiving c =
      if c.edgeTarget ≤ r.edges c ∨ c.rxTimeoutTicks ≤ r.elapsed c then
        { r with capArmed := false, state := stDecoding }
      else r := rfl

theorem Engine.advanceDecoding_ok {c : Config} {r r' : Engine} :
    r.advanceDecoding c = .ok r' ↔ r.edges c ≤ r.edgeBuf.length ∧
      ((∃ p, decodeTelemetry c r.edgeBuf (r.edges c) = .ok p ∧
          r' = { r with
            erpm := erpmOf p, mrpm := mrpmOf c p, valid := true, lastUpdate := r.tick, decodeOk := r.decodeOk + 1#32
            newData := true, capArmed := false, link := .output, cmpOut := idleVal c, state := stIdle }) ∨
        (∃ e, decodeTelemetry c r.edgeBuf (r.edges c) = .error e ∧
          r' = { r with
            decodeFail := r.decodeFail + 1#32, capArmed := false, link := .output, cmpOut := idleVal c
            state := stIdle })) := by
  unfold Engine.advanceDecoding Engine.capturedEdges
  by_cases h : r.edgeBuf.length < r.edges c
  · have h' : ¬ r.edges c ≤ r.edgeBuf.length := by omega
    simp [h, h']
  · have h' : r.edges c ≤ r.edgeBuf.length := by omega
    simp only [h, if_false, decodeTelemetry_take, Except.ok.injEq, h', true_and]
    cases hd : decodeTelemetry c r.edgeBuf (r.edges c) <;>
      simp [Engine.publish, Engine.countFailure, Engine.switchToOutput, eq_comm (b := r')]

/-- Everything ADVANCE can do to the block state: one of the five cases of R136. -/
theorem Engine.advance_ok {c : Config} {r r' : Engine} :
    r.advance c = .ok r' ↔
      ((r.state = stIdle ∨ r.state = stSending) ∧ r' = r) ∨
      (r.state = stAwaiting ∧ r.advanceAwaiting c = .ok r') ∨
      (r.state = stReceiving ∧ r' = r.advanceReceiving c) ∨
      (r.state = stDecoding ∧ r.advanceDecoding c = .ok r') := by
  unfold Engine.advance
  repeat' split
  all_goals simp_all [stIdle, stSending, stAwaiting, stReceiving, stDecoding, eq_comm (b := r')]

theorem Engine.handleEvent_owner {o : StateCode} {f : Engine → Engine} {r : Engine} (h : r.state = o) :
    r.handleEvent o f = f r := if_pos h

theorem Engine.handleEvent_stale {o : StateCode} {f : Engine → Engine} {r : Engine} (h : r.state ≠ o) :
    r.handleEvent o f = r := if_neg h

end Sys2Proof.Machine
end

