-- ==== Sys2Proof/Laws/Exec.lean ====
section
/-! SUPPORT. What one stimulus, and one step, can do: the inversion lemmas from which invariants are derived. -/

namespace Sys2Proof.Machine

open Host

/-- Everything a stimulus can do to the machine when it answers a next state: the configuration and the stimuli waiting
stay, and the block state changes by the one shared operation of that stimulus. -/
theorem exec_cases {s t : State} {i : Instr} (h : exec i s = .next t) :
    t.cfg = s.cfg ∧ t.stimuli = s.stimuli ∧
    ((i = .init ∧ s.r.configured = false ∧ (t.r = s.r ∨ t.r = s.r.initialised s.cfg.val)) ∨
    (∃ v b, (i = .throttle v ∨ i = .command v) ∧ s.r.configured = true ∧ t.r = s.r.issue s.cfg.val v b) ∨
    ((i = .ready ∨ i = .getstate ∨ i = .gettelem) ∧ s.r.configured = true ∧ t.r = s.r) ∨
    (i = .pollnew ∧ s.r.configured = true ∧ t.r = s.r.clearNewData) ∨
    (i = .advance ∧ s.r.configured = true ∧ s.r.advance s.cfg.val = .ok t.r) ∨
    (i = .txslot ∧ s.r.configured = true ∧ s.r.txActive = true ∧ s.r.txSlot = .ok t.r) ∨
    (i = .txdone ∧ s.r.configured = true ∧ s.r.txDonePending = true ∧
      t.r = s.r.clearTxDone.handleEvent stSending Engine.enterAwaiting) ∨
    (i = .capfull ∧ s.r.configured = true ∧ s.r.capFullPending = true ∧
      t.r = s.r.clearCapFull.handleEvent stReceiving Engine.enterDecoding) ∨
    (i = .edge ∧ s.r.edge s.cfg.val = .ok t.r) ∨
    (∃ k, i = .tick k ∧ t.r = s.r.advanceTick s.cfg.val k)) := by
  cases i with
  | init =>
    simp only [exec, execInit] at h; split at h
    · simp at h
    · simp only [Outcome.next.injEq] at h; subst h
      simp; grind
  | throttle v =>
    obtain ⟨hc, h⟩ := State.ifConfigured_next.1 h
    simp only [Outcome.next.injEq] at h; subst h; simp [hc]; try exact ⟨v, rfl, true, rfl⟩
  | command v =>
    obtain ⟨hc, h⟩ := State.ifConfigured_next.1 h
    simp only [Outcome.next.injEq] at h; subst h; simp [hc]; try exact ⟨v, rfl, false, rfl⟩
  | ready =>
    obtain ⟨hc, h⟩ := State.ifConfigured_next.1 h
    simp only [Outcome.next.injEq] at h; subst h; simp [hc]
  | getstate =>
    obtain ⟨hc, h⟩ := State.ifConfigured_next.1 h
    split at h
    · simp only [Outcome.next.injEq] at h; subst h; simp [hc]
    · simp at h
  | gettelem =>
    obtain ⟨hc, h⟩ := State.ifConfigured_next.1 h
    simp only [Outcome.next.injEq] at h; subst h; simp [hc]
  | pollnew =>
    obtain ⟨hc, h⟩ := State.ifConfigured_next.1 h
    simp only [Outcome.next.injEq] at h; subst h; simp [hc]
  | advance =>
    obtain ⟨hc, h⟩ := State.ifConfigured_next.1 h
    obtain ⟨r, hr, h⟩ := State.conclude_next.1 h
    subst h; simp [hc, hr]
  | txslot =>
    obtain ⟨hc, he, h⟩ := State.ifEnabled_next.1 h
    obtain ⟨r, hr, h⟩ := State.conclude_next.1 h
    subst h; simp [hc, hr]; exact he
  | txdone =>
    obtain ⟨hc, he, h⟩ := State.ifEnabled_next.1 h
    simp only [Outcome.next.injEq] at h; subst h; simp [hc]; exact he
  | capfull =>
    obtain ⟨hc, he, h⟩ := State.ifEnabled_next.1 h
    simp only [Outcome.next.injEq] at h; subst h; simp [hc]; exact he
  | edge =>
    obtain ⟨r, hr, h⟩ := State.conclude_next.1 h
    subst h; simp [hr]
  | tick k =>
    simp only [exec, execTick] at h; split at h
    · simp at h
    · simp only [Outcome.next.injEq] at h; subst h; simp

/-- A step that answers a next state took a word, decoded it, and ran the stimulus on the state with the word taken. -/
theorem step_next {s t : State} (h : step s = .next t) :
    ∃ w rest i, s.stimuli = w :: rest ∧ decode w = .ok i ∧ exec i { s with stimuli := rest } = .next t := by
  unfold step State.takeStimulus at h
  cases hs : s.stimuli with
  | nil => simp [hs] at h
  | cons w rest =>
    simp only [hs] at h
    cases hd : decode w with
    | error e => simp [hd] at h
    | ok i => exact ⟨w, rest, i, rfl, hd, by simpa [hd] using h⟩

/-- A step that faults ran a stimulus that faults. -/
theorem step_fault {s : State} {f : Fault} (h : step s = .fault f) :
    ∃ w rest i, s.stimuli = w :: rest ∧ decode w = .ok i ∧ exec i { s with stimuli := rest } = .fault f := by
  unfold step State.takeStimulus at h
  cases hs : s.stimuli with
  | nil => simp [hs] at h
  | cons w rest =>
    simp only [hs] at h
    cases hd : decode w with
    | error e => simp [hd] at h
    | ok i => exact ⟨w, rest, i, rfl, hd, by simpa [hd] using h⟩

/-- The only stimuli that can fault, and on what. -/
theorem exec_fault {s : State} {i : Instr} {f : Fault} (h : exec i s = .fault f) :
    (i = .getstate ∧ s.r.configured = true ∧ ¬ s.r.state.toNat ≤ 4) ∨
    (i = .advance ∧ s.r.configured = true ∧ s.r.advance s.cfg.val = .error f) ∨
    (i = .txslot ∧ s.r.configured = true ∧ s.r.txActive = true ∧ s.r.txSlot = .error f) ∨
    (i = .edge ∧ s.r.edge s.cfg.val = .error f) := by
  cases i with
  | init => simp only [exec, execInit] at h; split at h <;> simp at h
  | throttle v => have := State.ifConfigured_fault.1 h; simp at this
  | command v => have := State.ifConfigured_fault.1 h; simp at this
  | ready => have := State.ifConfigured_fault.1 h; simp at this
  | getstate =>
    obtain ⟨hc, h⟩ := State.ifConfigured_fault.1 h
    split at h
    · simp at h
    · rename_i hs; simp [hc, hs]
  | gettelem => have := State.ifConfigured_fault.1 h; simp at this
  | pollnew => have := State.ifConfigured_fault.1 h; simp at this
  | advance =>
    obtain ⟨hc, h⟩ := State.ifConfigured_fault.1 h
    simp [hc, State.conclude_fault.1 h]
  | txslot =>
    obtain ⟨hc, he, h⟩ := State.ifEnabled_fault.1 h
    simp only [Engine.txSlotEnabled] at he
    simp [hc, he, State.conclude_fault.1 h]
  | txdone => have := State.ifEnabled_fault.1 h; simp at this
  | capfull => have := State.ifEnabled_fault.1 h; simp at this
  | edge => simp [State.conclude_fault.1 h]
  | tick k => simp only [exec, execTick] at h; split at h <;> simp at h

end Sys2Proof.Machine
end

