-- ==== Sys2Proof/Laws/PerInstr.lean ====
section
/-! SUPPORT. What holds of each stimulus as syntax, one lemma for each constructor: the three fields of its word
(R77). -/

namespace Sys2Proof.Laws

/-- The fields of a word put together from its three fields. -/
theorem word_fields (op : BitVec 4) (arg : Arg) :
    opField (op ++ 0#12 ++ arg) = op ∧ rsvField (op ++ 0#12 ++ arg) = 0#12 ∧ argField (op ++ 0#12 ++ arg) = arg := by
  refine ⟨?_, ?_, ?_⟩ <;> ext j hj <;> simp [opField, rsvField, argField] <;> grind

/-- R77, R82: the word of a stimulus has the stimulus's operation code, a zero `rsv` and its argument as its three
fields. -/
def EncodingLayout.Statement (i : Instr) : Prop :=
  opField (encode i) = i.op ∧ rsvField (encode i) = 0#12 ∧ argField (encode i) = i.arg

theorem EncodingLayout.init : EncodingLayout.Statement .init := word_fields 0#4 0#16

theorem EncodingLayout.throttle (a : Arg) : EncodingLayout.Statement (.throttle a) := word_fields 1#4 a

theorem EncodingLayout.command (a : Arg) : EncodingLayout.Statement (.command a) := word_fields 2#4 a

theorem EncodingLayout.ready : EncodingLayout.Statement .ready := word_fields 3#4 0#16

theorem EncodingLayout.getstate : EncodingLayout.Statement .getstate := word_fields 4#4 0#16

theorem EncodingLayout.gettelem : EncodingLayout.Statement .gettelem := word_fields 5#4 0#16

theorem EncodingLayout.pollnew : EncodingLayout.Statement .pollnew := word_fields 6#4 0#16

theorem EncodingLayout.advance : EncodingLayout.Statement .advance := word_fields 7#4 0#16

theorem EncodingLayout.txslot : EncodingLayout.Statement .txslot := word_fields 8#4 0#16

theorem EncodingLayout.txdone : EncodingLayout.Statement .txdone := word_fields 9#4 0#16

theorem EncodingLayout.capfull : EncodingLayout.Statement .capfull := word_fields 10#4 0#16

theorem EncodingLayout.edge : EncodingLayout.Statement .edge := word_fields 11#4 0#16

theorem EncodingLayout.tick (a : Arg) : EncodingLayout.Statement (.tick a) := word_fields 12#4 a

end Sys2Proof.Laws
end

