-- ==== Sys2Proof/Tests/Slice0.lean ====
section
/-! SUPPORT. Tests: the vectors of 95_test_vectors.md (named V-… below) and words written out from the encoding of R77
and R78; then, for every obligation with hypotheses, a witness that meets them, at the boundary of each clause. -/

namespace Sys2Proof.Tests

open Sys2Proof Sys2Proof.Machine Host

/-! ### Helpers -/

/-- The outcome is a next state of which `p` holds. -/
def nextIs (o : Outcome State Fault Refusal) (p : State → Bool) : Bool :=
  match o with
  | .next t => p t
  | .fault _ => false
  | .refused _ => false

/-- The outcome is this refusal. -/
def refusedAs (o : Outcome State Fault Refusal) (why : Refusal) : Bool :=
  match o with
  | .next _ => false
  | .fault _ => false
  | .refused w => w == why

/-- The outcome is this fault. -/
def faultsAs (o : Outcome State Fault Refusal) (f : Fault) : Bool :=
  match o with
  | .next _ => false
  | .fault g => g == f
  | .refused _ => false

/-- The state after a stimulus that completes. -/
def after (i : Instr) (s : State) : State :=
  match exec i s with
  | .next t => t
  | .fault _ => s
  | .refused _ => s

/-- A block state before INIT, with junk in every field the spec leaves unspecified there (R164). -/
def junk (tick : Nat) : Engine where
  configured := false
  state := 7#3
  link := .input
  frame := 0xABCD#16
  duty := [1#16]
  txActive := true
  txIndex := 31#5
  cmpOut := 0xFFFF#16
  txDonePending := true
  capArmed := true
  capRemaining := 63#6
  edgeBuf := []
  capFullPending := true
  tick := tick
  tMark := 77
  erpm := 1#32
  mrpm := 2#32
  valid := true
  lastUpdate := 3
  framesSent := 4#32
  decodeOk := 5#32
  decodeFail := 6#32
  newData := true

/-- A machine with the test-vector configuration (R12). -/
def tvcState (r : Engine) : State := ⟨tvcValid, r, [], [], 0, .nothing⟩

/-- Power-on, the next INIT drawing `ok`. -/
def powerOn (tick : Nat) (ok : Bool) : State := { tvcState (junk tick) with initAnswers := [ok] }

/-- Idle, just after INIT. -/
def idle : State := tvcState ((junk 500).initialised tvc)

/-- Sending: `THROTTLE 1046` accepted. -/
def sending : State := after (.throttle 1046#16) idle

/-- Sending, 16 of 17 slots gone. -/
def lastSlot : State := { sending with r := { sending.r with txIndex := 16#5, cmpOut := 10#16 } }

/-- Sending, the transmit-complete event pending. -/
def sent : State := after .txslot lastSlot

/-- AwaitingResponse since tick `mark`. -/
def awaiting (mark tick : Nat) : State := { sent with
  r := { sent.r with state := 2#3, txDonePending := false, tMark := mark, tick := tick } }

/-- The 17 timestamps of V-D1. -/
def vD1 : List Nat :=
  [1000, 1010, 1030, 1050, 1060, 1090, 1100, 1120, 1130, 1140, 1150, 1160, 1170, 1180, 1190, 1200, 1210]

/-- The 15 timestamps of V-D13. -/
def vD13 : List Nat := [1000, 1010, 1030, 1050, 1060, 1090, 1100, 1120, 1130, 1140, 1150, 1180, 1190, 1200, 1210]

/-- A buffer that holds these timestamps and zeros after them. -/
def bufferOf (ts : List Nat) : List Nat := ts ++ List.replicate (32 - ts.length) 0

/-- Receiving since tick `mark`, with these edges captured. -/
def receiving (ts : List Nat) (mark tick : Nat) : State := { awaiting mark tick with
  r := { (awaiting mark tick).r with
    state := 3#3, link := .input, capArmed := true, edgeBuf := bufferOf ts
    capRemaining := BitVec.ofNat 6 (32 - ts.length) } }

/-- Receiving with a full buffer and the buffer-full event pending (V-K3). -/
def full : State := { receiving ((List.range 32).map (fun i => 1000 + 10 * i)) 1000 1310 with
  r := { (receiving ((List.range 32).map (fun i => 1000 + 10 * i)) 1000 1310).r with
    capArmed := false, capFullPending := true } }

/-- Decoding, with these edges captured. -/
def decoding (ts : List Nat) : State := { receiving ts 530 930 with
  r := { (receiving ts 530 930).r with state := 4#3, capArmed := false } }

/-- A block state with another protocol state code. -/
def inState (c : StateCode) (s : State) : State := { s with r := { s.r with state := c } }

/-! ### Words written out from the encodings of R77 and R78 -/

theorem test_decode_init : decode 0b00000000000000000000000000000000#32 = .ok .init := by decide
theorem test_decode_throttle : decode 0b00010000000000000000010000010110#32 = .ok (.throttle 1046#16) := by decide
theorem test_decode_command : decode 0b00100000000000000000000000101111#32 = .ok (.command 47#16) := by decide
theorem test_decode_ready : decode 0b00110000000000000000000000000000#32 = .ok .ready := by decide
theorem test_decode_getstate : decode 0b01000000000000000000000000000000#32 = .ok .getstate := by decide
theorem test_decode_gettelem : decode 0b01010000000000000000000000000000#32 = .ok .gettelem := by decide
theorem test_decode_pollnew : decode 0b01100000000000000000000000000000#32 = .ok .pollnew := by decide
theorem test_decode_advance : decode 0b01110000000000000000000000000000#32 = .ok .advance := by decide
theorem test_decode_txslot : decode 0b10000000000000000000000000000000#32 = .ok .txslot := by decide
theorem test_decode_txdone : decode 0b10010000000000000000000000000000#32 = .ok .txdone := by decide
theorem test_decode_capfull : decode 0b10100000000000000000000000000000#32 = .ok .capfull := by decide
theorem test_decode_edge : decode 0b10110000000000000000000000000000#32 = .ok .edge := by decide
theorem test_decode_tick : decode 0b11000000000000000000000000011110#32 = .ok (.tick 30#16) := by decide

/-- V-W5 to V-W9, each with its reason. -/
theorem test_decode_rejects :
    decode 0xC0000000#32 = .error .tickZero ∧
    decode 0xD0000000#32 = .error (.reservedOp 0xD#4) ∧ decode 0xE0000000#32 = .error (.reservedOp 0xE#4) ∧
    decode 0xF0000000#32 = .error (.reservedOp 0xF#4) ∧ decode 0x00010000#32 = .error (.reservedField 1#12) ∧
    decode 0x30000001#32 = .error (.nonzeroArg 1#16) ∧ decode 0x10010416#32 = .error (.reservedField 1#12) := by decide

/-- The words the spec writes for THROTTLE 1046, TICK 30 and EDGE (V-W1, V-W4, V-W10). -/
theorem test_encode_words :
    encode (.throttle 1046#16) = 0x10000416#32 ∧ encode (.tick 30#16) = 0xC000001E#32 ∧
    encode .edge = 0xB0000000#32 := by decide

theorem test_decodeTableWord :
    decodeTableWord 32 0x2000002F = some (.command 47#16) ∧ decodeTableWord 32 0x30000001 = none := by decide

/-- The one operand check of R78 and R80: TICK 0 is ill formed. -/
theorem test_wellFormed_refuses_tick_zero :
    (Instr.tick 0#16).wellFormed = false ∧ (Instr.tick 1#16).wellFormed = true := by decide

/-- One ill-formed configuration for each constraint of R10 and R73, V-M8 among them: all refused. -/
theorem test_config_refuses_illFormed :
    ([ { tvc with tickWidth := 7 }, { tvc with tickWidth := 33 }, { tvc with rxBitTicks := 1 }
     , { tvc with maxRun := 0 }, { tvc with edgeCap := 33 }, { tvc with edgeCap := 1 }
     , { tvc with edgeTarget := 1 }, { tvc with edgeTarget := 33 }, { tvc with responseDelayTicks := 2 ^ 16 }
     , { tvc with rxTimeoutTicks := 2 ^ 16 }, { tvc with motorPoles := 0 }, { tvc with motorPoles := 2 ^ 32 }
     , { tvc with dutyFull := 0#16, dutyZero := 0#16, dutyOne := 0#16 }
     , { tvc with dutyZero := 15#16, dutyOne := 15#16 }, { tvc with dutyOne := 41#16 }
     , { tvc with gcrTable := defaultGcrTable.tail }
     , { tvc with gcrTable := some 0x0#4 :: defaultGcrTable.tail } ].all (fun c => c.accept.isNone)) = true := by decide

/-- R10: TVC is admitted, and its bit period is the default its rates give. -/
theorem test_config_admits_tvc : tvc.accept.isSome = true ∧ tvc.defaultRxBitTicks = tvc.rxBitTicks := by decide

/-! ### Assembler (R82, R83) -/

theorem test_assemble_line :
    lineStimuli "[HOST] THROTTLE 1046 ; first".toList = some [0x10000416#32] ∧
    lineStimuli "TICK 0x1E".toList = some [0xC000001E#32] ∧ lineStimuli "[TXD] TXSLOT".toList = some [0x80000000#32] ∧
    lineStimuli "TICK 0".toList = none := by decide

theorem test_assemble_pseudo :
    (assembleLine "SENDFRAME".toList).map List.length = some 18 ∧
    assembleLine "TICKS 65540".toList = some [.tick 65535#16, .tick 5#16] ∧
    assembleLine "EDGES 10, 0".toList = some [.edge, .tick 10#16, .edge, .edge] := by decide

/-- Text that log entry 11 takes: `0x` numbers in the shorthand. -/
theorem test_assemble_shorthand_hex :
    assembleLine "TICKS 0x10004".toList = some [.tick 65535#16, .tick 5#16] ∧
    assembleLine "EDGES 0x0A,0".toList = some [.edge, .tick 10#16, .edge, .edge] := by decide

/-- Text that log entry 11 rejects: gaps without commas, a gap left out, a bracket never closed, or closed only in the
comment, and an argument where none is taken. -/
theorem test_assemble_rejects :
    ["EDGES 10 20", "EDGES 10,", "[TXD TXSLOT", "[a;b] TXSLOT", "SENDFRAME 1", "EDGE 1", "TICK 65536"].all
      (fun l => (assembleLine l.toList).isNone) = true := by decide

/-! ### Vectors of the encoder, the decoder and the RPM calculator -/

/-- V-C1 to V-C6. -/
theorem test_csum_vectors :
    [0x000#12, 0xFFF#12, 0x82D#12, 0x3E8#12, 0x111#12, 0x0FA#12].map csum12 =
      [0x0#4, 0xF#4, 0x7#4, 0x5#4, 0x1#4, 0x5#4] := by decide

/-- V-E1 to V-E17. -/
theorem test_encode_vectors :
    [0#16, 47#16, 2047#16, 2048#16, 65535#16].map clamp = [0#11, 47#11, 2047#11, 2047#11, 2047#11] ∧
    [0#16, 1#16, 47#16, 1046#16, 2047#16, 65535#16].map (encodeFrame · false) =
      [0x0000#16, 0x0022#16, 0x05EB#16, 0x82C6#16, 0xFFEE#16, 0xFFEE#16] ∧
    [48#16, 100#16, 1000#16, 1046#16, 2047#16, 3000#16].map (encodeFrame · true) =
      [0x0617#16, 0x0C95#16, 0x7D1B#16, 0x82D7#16, 0xFFFF#16, 0xFFFF#16] := by decide

/-- V-M1, V-M4, V-M6, V-M7. -/
theorem test_dutyMap_vectors :
    (dutyMap tvc 0x82D7#16).map BitVec.toNat = [10, 25, 25, 25, 25, 25, 10, 25, 10, 10, 25, 10, 25, 10, 10, 10, 40] ∧
    (dutyMap tvc 0x0617#16).map BitVec.toNat = [25, 25, 25, 25, 25, 10, 10, 25, 25, 25, 25, 10, 25, 10, 10, 10, 40] ∧
    (dutyMap { tvc with inverted := false } 0x82D7#16).map BitVec.toNat =
      [30, 15, 15, 15, 15, 15, 30, 15, 30, 30, 15, 30, 15, 30, 30, 30, 0] ∧
    (dutyMap { tvc with inverted := false } 0#16).map BitVec.toNat = List.replicate 16 15 ++ [0] := by decide

/-- V-G1 to V-G3. -/
theorem test_gcr_vectors :
    [0x19#5, 0x1B#5, 0x12#5, 0x13#5, 0x1D#5, 0x15#5, 0x16#5, 0x17#5, 0x1A#5, 0x09#5, 0x0A#5, 0x0B#5, 0x1E#5, 0x0D#5,
      0x0E#5, 0x0F#5].map (gcr tvc) = (List.range 16).map (fun n => some (BitVec.ofNat 4 n)) ∧
    [0x00#5, 0x1F#5, 0x10#5, 0x1C#5, 0x08#5].map (gcr tvc) = List.replicate 5 none ∧
    (defaultGcrTable.filter (· == none)).length = 16 := by decide

/-- V-P1 to V-P14. -/
theorem test_delta_round_vectors :
    tickDelta 16 1000 1010 = 10 ∧ tickDelta 16 65530 4 = 10 ∧ tickDelta 16 500 500 = 0 ∧
    tickDelta 16 4 65530 = 65526 ∧
    [0, 4, 5, 14, 15, 25, 54, 55, 65526].map (roundRun tvc) = [1, 1, 1, 1, 2, 3, 5, 5, 5].map Except.ok ∧
    roundRun { tvc with runCapMode := .reject } 55 = .error .gapTooLong := by decide

/-- V-P15 to V-P19. -/
theorem test_symbol_vectors :
    runs tvc [1000, 1010, 1030, 1050] 4 = .ok [true, false, false, true, true] ∧
    assemble [true, false, false, true, true, false, true, true, true, false, true, true, false, true, false, true, false,
      true, false, true, false] = 0x9BB55#20 ∧
    decodeSymbols tvc 0x9BB55#20 = .ok 0x3E85#16 ∧ telemPeriod 0x3E85#16 = 1000#12 ∧
    checkValue 0x3E85#16 = .ok 1000#12 := by decide

/-- V-D1 to V-D7, V-D12, V-D21: decodes that succeed. -/
theorem test_decode_succeeds :
    decodeTelemetry tvc vD1 17 = .ok 1000#12 ∧
    decodeTelemetry tvc (vD1.map (fun t => (t + 63530) % 65536)) 17 = .ok 1000#12 ∧
    decodeTelemetry tvc (vD1.take 15 ++ [1210]) 16 = .ok 1000#12 ∧
    decodeTelemetry tvc vD1 16 = .ok 1000#12 ∧
    decodeTelemetry tvc [1000, 1020, 1040, 1050, 1060, 1100, 1110, 1120, 1130, 1140, 1150, 1160, 1170, 1180, 1190, 1200,
      1210] 17 = .ok 250#12 ∧
    decodeTelemetry tvc [1000, 1020, 1040, 1070, 1090, 1120, 1130, 1170, 1180, 1200, 1210] 11 = .ok 1#12 ∧
    decodeTelemetry tvc [1000, 1020, 1040, 1060, 1070, 1090, 1100, 1130, 1140, 1160, 1180, 1190, 1210] 13 = .ok 100#12 ∧
    decodeTelemetry tvc [1000, 1020, 1040, 1070, 1090, 1120, 1140, 1170, 1190, 1200, 1210] 11 = .ok 0#12 ∧
    decodeTelemetry tvc [1002, 1008, 1032, 1048, 1062, 1088, 1102, 1118, 1132, 1138, 1152, 1158, 1172, 1178, 1192, 1198,
      1212] 17 = .ok 1000#12 := by decide

/-- V-D8 to V-D11, V-D13 to V-D20, V-D22: decodes that fail, each with its reason, and V-D19, which does not. -/
theorem test_decode_fails :
    decodeTelemetry tvc [] 0 = .error .insufficientEdges ∧ decodeTelemetry tvc [1000] 1 = .error .insufficientEdges ∧
    decodeTelemetry tvc [1000, 1010] 2 = .error .insufficientBits ∧
    decodeTelemetry tvc vD1 15 = .error .insufficientBits ∧
    decodeTelemetry tvc vD13 15 = .error .checksumMismatch ∧
    decodeTelemetry tvc [1000, 1010, 1030, 1050, 1060, 1090, 1100, 1120, 1130, 1140, 1160, 1170, 1180, 1190, 1210] 15 =
      .error .checksumMismatch ∧
    decodeTelemetry tvc [1000, 1010, 1030, 1050, 1060, 1090, 1100, 1120, 1130, 1140, 1150, 1180, 1210] 13 =
      .error .invalidSymbol ∧
    decodeTelemetry { tvc with runCapMode := .reject } [1000, 1060, 1070, 1090] 4 = .error .gapTooLong ∧
    decodeTelemetry { tvc with runCapMode := .reject } (vD1 ++ [1300]) 18 = .ok 1000#12 ∧
    decodeTelemetry tvc (1000 :: vD1) 18 = .error .invalidSymbol ∧
    decodeTelemetry tvc [1000, 1010, 1050, 1060, 1100, 1110, 1150, 1160, 1200, 1210] 10 = .error .invalidSymbol := by
  decide

/-- V-R1 to V-R10. -/
theorem test_rpm_vectors :
    [500#12, 1000#12, 0#12, 1#12, 3#12, 100#12, 250#12, 4095#12].map (fun p => (erpmOf p, mrpmOf tvc p)) =
      [ (120000#32, 17142#32), (60000#32, 8571#32), (0#32, 0#32), (60000000#32, 8571428#32), (20000000#32, 2857142#32)
      , (600000#32, 85714#32), (240000#32, 34285#32), (14652#32, 2093#32) ] ∧
    mrpmOf { tvc with motorPoles := 1 } 1#12 = 120000000#32 ∧
    mrpmOf { tvc with motorPoles := 1 } 4095#12 = 29304#32 := by decide

/-- R149: the codes of the failure reasons. -/
theorem test_reason_codes :
    [DecodeFail.insufficientEdges, .insufficientBits, .invalidSymbol, .checksumMismatch, .gapTooLong].map
      DecodeFail.code = [1, 2, 3, 4, 5] := by decide

/-! ### One step of each stimulus -/

/-- V-S3, V-S2: both draws of INIT_OK. -/
theorem test_init : nextIs (exec .init (powerOn 65000 true)) (fun t =>
      t.response == .word 1#32 && t.r.configured && t.r.state == 0#3 && t.r.cmpOut == 40#16 && t.r.tick == 65000
        && t.r.capRemaining == 32#6 && !t.r.valid) = true ∧
    nextIs (exec .init (powerOn 5 false)) (fun t => t.response == .word 0#32 && t.r == junk 5) = true := by decide

/-- V-S4, V-S1. -/
theorem test_init_twice : refusedAs (exec .init idle) .alreadyConfigured = true ∧
    refusedAs (exec .ready (powerOn 0 true)) .notConfigured = true := by decide

/-- V-S5. -/
theorem test_throttle : nextIs (exec (.throttle 1046#16) idle) (fun t =>
    t.r.frame == 0x82D7#16 && t.r.duty == dutyMap tvc 0x82D7#16 && t.r.framesSent == 1#32 && t.r.state == 1#3
      && t.r.txActive && t.r.cmpOut == 40#16) = true := by decide

/-- V-T7. -/
theorem test_throttle_busy : nextIs (exec (.throttle 500#16) sending) (fun t => t == sending) = true := by decide

/-- V-S7, V-S6. -/
theorem test_command : nextIs (exec (.command 2047#16) idle) (fun t => t.r.frame == 0xFFEE#16) = true ∧
    nextIs (exec (.command 5#16) sending) (fun t => t.r == sending.r) = true := by decide

/-- R132's example. -/
theorem test_ready : nextIs (exec .ready idle) (fun t => t.response == .word 1#32) = true ∧
    nextIs (exec .ready sending) (fun t => t.response == .word 0#32) = true := by decide

/-- R133's example; R23. -/
theorem test_getstate : nextIs (exec .getstate (awaiting 500 500)) (fun t => t.response == .word 2#32) = true ∧
    faultsAs (exec .getstate (inState 5#3 idle)) .badState = true := by decide

/-- V-S20, and the record P1 ends with. -/
theorem test_gettelem :
    nextIs (exec .gettelem idle) (fun t => t.response == .record ⟨0#32, 0#32, false, 0, 0#32, 0#32, 0#32⟩) = true ∧
    nextIs (exec .gettelem (after .advance (decoding vD1))) (fun t =>
      t.response == .record ⟨60000#32, 8571#32, true, 930, 1#32, 1#32, 0#32⟩) = true := by decide

/-- V-S19. -/
theorem test_pollnew :
    nextIs (exec .pollnew (after .advance (decoding vD1))) (fun t =>
      t.response == .word 1#32 && nextIs (exec .pollnew t) (fun u => u.response == .word 0#32)) = true := by decide

/-- V-T1, V-T2. -/
theorem test_txslot_first : nextIs (exec .txslot sending) (fun t =>
    t.r.cmpOut == 10#16 && t.r.txIndex == 1#5 && t.r.txActive &&
      nextIs (exec .txslot t) (fun u => u.r.cmpOut == 25#16)) = true := by decide

/-- V-T4, V-T5. -/
theorem test_txslot_last : nextIs (exec .txslot lastSlot) (fun t =>
    t.r.cmpOut == 40#16 && t.r.txIndex == 17#5 && !t.r.txActive && t.r.txDonePending && t.r.state == 1#3 &&
      refusedAs (exec .txslot t) .notEnabled) = true := by decide

/-- V-S8, V-S9. -/
theorem test_txdone : nextIs (exec .txdone sent) (fun t =>
    t.r.state == 2#3 && t.r.tMark == 500 && !t.r.txDonePending && refusedAs (exec .txdone t) .notEnabled) = true := by
  decide

/-- R141's example; V-K6, a stale event. -/
theorem test_capfull :
    nextIs (exec .capfull full) (fun t => t.r.state == 4#3 && !t.r.capFullPending && !t.r.capArmed) = true ∧
    nextIs (exec .capfull (after .advance full)) (fun t => t.r.state == 4#3 && !t.r.capFullPending) = true := by decide

/-- V-K1, V-K2. -/
theorem test_edge : nextIs (exec .edge (receiving [] 1000 1000)) (fun t =>
    t.r.edgeBuf[0]? == some 1000 && t.r.capRemaining == 31#6 &&
      nextIs (exec .edge t) (fun u => u.r.edgeBuf[1]? == some 1000 && u.r.capRemaining == 30#6)) = true := by decide

/-- V-K4, V-K7, V-K8: lost edges. -/
theorem test_edge_lost : nextIs (exec .edge full) (fun t => t == full) = true ∧
    nextIs (exec .edge idle) (fun t => t == idle) = true ∧
    nextIs (exec .edge (powerOn 0 true)) (fun t => t == powerOn 0 true) = true := by decide

/-- V-S22, V-S23. -/
theorem test_tick : nextIs (exec (.tick 10#16) (tvcState { idle.r with tick := 65530 })) (fun t => t.r.tick == 4) = true ∧
    nextIs (exec (.tick 5#16) (powerOn 0 true)) (fun t => t.r == junk 5) = true := by decide

/-- V-S10 to V-S15: the boundaries of both timeouts. -/
theorem test_advance_timeouts :
    nextIs (exec .advance (awaiting 500 529)) (fun t => t == awaiting 500 529) = true ∧
    nextIs (exec .advance (awaiting 500 530)) (fun t => t == receiving [] 530 530) = true ∧
    nextIs (exec .advance (awaiting 65520 14)) (fun t => t.r.state == 3#3 && t.r.tMark == 14) = true ∧
    nextIs (exec .advance (receiving vD1 530 929)) (fun t => t == receiving vD1 530 929) = true ∧
    nextIs (exec .advance (receiving vD1 530 930)) (fun t => t == decoding vD1) = true ∧
    nextIs (exec .advance full) (fun t => t.r.state == 4#3 && t.r.capFullPending) = true := by decide

/-- V-S16, V-S17, V-S18: the decode step. -/
theorem test_advance_decodes :
    nextIs (exec .advance (decoding vD1)) (fun t =>
      t.r.erpm == 60000#32 && t.r.mrpm == 8571#32 && t.r.valid && t.r.lastUpdate == 930 && t.r.decodeOk == 1#32
        && t.r.newData && t.r.link == .output && t.r.cmpOut == 40#16 && t.r.state == 0#3) = true ∧
    nextIs (exec .advance (decoding vD13)) (fun t =>
      t.r.decodeFail == 1#32 && t.r.decodeOk == 0#32 && !t.r.valid && !t.r.newData && t.r.link == .output
        && t.r.state == 0#3) = true ∧
    nextIs (exec .advance (decoding [])) (fun t => t.r.decodeFail == 1#32 && t.r.state == 0#3) = true := by decide

/-- From reset with one word presented: INIT, EDGE and TICK step; READY is refused (R126), a reserved word too. -/
theorem test_step_from_reset :
    nextIs (step (State.reset.withFetchWord 32 0x00000000)) (fun t => t.stimuli == []) = true ∧
    nextIs (step (State.reset.withFetchWord 32 0xB0000000)) (fun t => !t.r.configured) = true ∧
    nextIs (step (State.reset.withFetchWord 32 0xC0000005)) (fun t => !t.r.configured) = true ∧
    refusedAs (step (State.reset.withFetchWord 32 0x30000000)) .notConfigured = true ∧
    refusedAs (step (State.reset.withFetchWord 32 0xD0000000)) (.reserved (.reservedOp 0xD#4)) = true ∧
    refusedAs (step State.reset) .noStimulus = true := by decide

/-! ### States that meet the invariant -/

/-- The invariant from its parts. -/
theorem inv_of {s : State} (ht : s.r.tick < 2 ^ s.cfg.val.tickWidth) (h1 : s.r.StateOk) (h2 : s.r.LinkOk)
    (h3 : s.r.DutyOk s.cfg.val) (h4 : s.r.TxOk) (h5 : s.r.CaptureOk s.cfg.val) (h6 : s.r.TicksOk s.cfg.val)
    (h7 : s.r.RecordOk s.cfg.val) : s.Inv := ⟨ht, fun _ => ⟨h1, h2, h3, h4, h5, h6, h7⟩⟩

/-- `DutyOk` from a check of each entry. -/
theorem dutyOk_of {c : Config} {r : Engine} (h1 : r.duty.length = dutyLen)
    (h2 : r.duty.all (fun d => decide (d.toNat ≤ c.dutyFull.toNat)) = true) (h3 : r.cmpOut.toNat ≤ c.dutyFull.toNat) :
    r.DutyOk c := ⟨h1, fun d hd => of_decide_eq_true (List.all_eq_true.mp h2 d hd), h3⟩

theorem inv_idle : State.Inv idle :=
  inv_of (by decide) (by decide) (by decide) (dutyOk_of (by decide) (by decide) (by decide)) (by decide) (by decide)
    (by decide) (by decide)

theorem inv_sending : State.Inv sending :=
  inv_of (by decide) (by decide) (by decide) (dutyOk_of (by decide) (by decide) (by decide)) (by decide) (by decide)
    (by decide) (by decide)

theorem inv_awaiting : State.Inv (awaiting 500 530) :=
  inv_of (by decide) (by decide) (by decide) (dutyOk_of (by decide) (by decide) (by decide)) (by decide) (by decide)
    (by decide) (by decide)

theorem inv_receiving : State.Inv (receiving vD1 530 930) :=
  inv_of (by decide) (by decide) (by decide) (dutyOk_of (by decide) (by decide) (by decide)) (by decide) (by decide)
    (by decide) (by decide)

theorem inv_full : State.Inv full :=
  inv_of (by decide) (by decide) (by decide) (dutyOk_of (by decide) (by decide) (by decide)) (by decide) (by decide)
    (by decide) (by decide)

theorem inv_decoding : State.Inv (decoding vD1) :=
  inv_of (by decide) (by decide) (by decide) (dutyOk_of (by decide) (by decide) (by decide)) (by decide) (by decide)
    (by decide) (by decide)

theorem inv_powerOn : State.Inv (powerOn 5 true) := ⟨by decide, fun h => absurd h (by decide)⟩

/-! ### Witnesses: a state and operands that meet the hypotheses of each obligation, clause by clause -/

/-- The least and the greatest TICK count. -/
theorem witness_DecodeOfEncodeIsIdentity :
    (Instr.tick 1#16).wellFormed = true ∧ (Instr.tick 65535#16).wellFormed = true ∧ Instr.init.wellFormed = true := by
  decide

theorem witness_EncodeOfDecodeIsIdentity :
    decode 0xC0000001#32 = .ok (.tick 1#16) ∧ decode 0x1000FFFF#32 = .ok (.throttle 65535#16) := by decide

/-- The second clause of DecodeFollowsOperationMap. -/
theorem witness_DecodeFollowsOperationMap :
    decode 0xC0000001#32 = .ok (.tick 1#16) ∧ ⟨"TICK", 0xFFFF0000#32, 0xC0000000#32⟩ ∈ opTable ∧
    OpRow.covers ⟨"TICK", 0xFFFF0000#32, 0xC0000000#32⟩ 0xC0000001#32 = true := by decide

/-- A word of each kind of R80, at its boundary, and a legal word. -/
theorem witness_ReservedWordsAreRefused :
    [0xD0000000#32, 0x00010000#32, 0x0FFF0000#32, 0x30000001#32, 0xC0000000#32, 0xC0000001#32].all
      (fun w => (idle.present w).stimuli == [w]) = true := by decide

theorem witness_StepRunsTheDecodedStimulus :
    (idle.present 0x70000000#32).stimuli = 0x70000000#32 :: [] ∧ decode 0x70000000#32 = .ok .advance ∧
    idle.stimuli = [] := by decide

theorem witness_PresentedWordRunsNext : (Instr.tick 1#16).wellFormed = true ∧ Instr.edge.wellFormed = true := by decide

/-- The least count, and the last that is one word and the first that is two. -/
theorem witness_TicksShorthandAddsUp : 1 ≤ 1 ∧ 1 ≤ 65535 ∧ 1 ≤ 65536 ∧
    ticks 65535 = [.tick 65535#16] ∧ ticks 65536 = [.tick 65535#16, .tick 1#16] := by decide

/-- Each clause with hypotheses of AssemblerTextGivesItsStimuli: the least and the greatest argument in both bases, the
least TICKS and the first of two words, gaps of 0 and of 65535, an agent that is empty and one that is not. -/
theorem witness_AssemblerTextGivesItsStimuli :
    (numberOfDigits ([0] : List (Fin 10)) = (0#16).toNat ∧
      numberOfDigits ([6, 5, 5, 3, 5] : List (Fin 10)) = (65535#16).toNat ∧
      numberOfDigits ([0] : List (Fin 16)) = (0#16).toNat ∧
      numberOfDigits ([15, 15, 15, 15] : List (Fin 16)) = (65535#16).toNat) ∧
    (1 ≤ numberOfDigits ([1] : List (Fin 10)) ∧ 1 ≤ numberOfDigits ([6, 5, 5, 3, 6] : List (Fin 10))) ∧
    ([[0], [6, 5, 5, 3, 5]] : List (List (Fin 10))).all (fun ds => ds != [] && decide (numberOfDigits ds < 65536)) = true ∧
    (']' ∉ "".toList ∧ ';' ∉ "".toList ∧ ']' ∉ "TXD".toList ∧ ';' ∉ "TXD".toList ∧
      (" TXSLOT".toList.dropWhile (· == ' ')).head? ≠ some '[') := by decide

theorem witness_AssembledLinesAreLegalWords :
    assembleLine "TICK 65535".toList = some [.tick 65535#16] ∧ assembleLine [] = some [] ∧
    assembleLine "EDGES 0,1".toList = some [.edge, .edge, .tick 1#16, .edge] := by decide

/-- The least and the greatest timestamps of an 8-bit tick, in both orders. -/
theorem witness_DeltaIsModularDifference : 0 < 2 ^ 8 ∧ 255 < 2 ^ 8 := by decide

/-- Both ends of the interval of 1 and of `MAX_RUN` bit periods. -/
theorem witness_JitterWithinHalfPeriodIsRounded :
    [(5, 1), (14, 1), (45, 5), (54, 5)].all (fun dk =>
      decide (1 ≤ dk.2 ∧ dk.2 ≤ tvcValid.val.maxRun ∧
        dk.2 * tvcValid.val.rxBitTicks - tvcValid.val.rxBitTicks / 2 ≤ dk.1 ∧
        dk.1 ≤ dk.2 * tvcValid.val.rxBitTicks + (tvcValid.val.rxBitTicks - tvcValid.val.rxBitTicks / 2) - 1)) = true := by
  decide

/-- TVC with the cap rejecting. -/
def tvcReject : ValidConfig := ⟨{ tvc with runCapMode := .reject }, by decide⟩

/-- The three clauses of RunLengthLimits: the last delta below half a period, the first above `MAX_RUN` periods. -/
theorem witness_RunLengthLimits :
    4 < tvcValid.val.rxBitTicks - tvcValid.val.rxBitTicks / 2 ∧
    ((tvcValid.val.maxRun + 1) * tvcValid.val.rxBitTicks ≤ 55 + tvcValid.val.rxBitTicks / 2 ∧
      tvcValid.val.runCapMode = .clamp) ∧
    ((tvcReject.val.maxRun + 1) * tvcReject.val.rxBitTicks ≤ 55 + tvcReject.val.rxBitTicks / 2 ∧
      tvcReject.val.runCapMode = .reject) := by decide

/-- The 21 bits of V-D1. -/
def vD1Bits : List Bool :=
  [true, false, false, true, true, false, true, true, true, false, true, true, false, true, false, true, false, true, false,
    true, false]

theorem witness_BitstreamStopsAtTwentyOneBits :
    runs tvc vD1 17 = .ok vD1Bits ∧ vD1Bits.length = 21 ∧
    runs tvc [1000, 1010, 1030, 1050] 4 = .ok [true, false, false, true, true] := by decide

theorem witness_DecodedPeriodIsChecked :
    decodeTelemetry tvc vD1 17 = .ok 1000#12 ∧ decodeTelemetry tvc vD1 16 = .ok 1000#12 := by decide

/-- Exactly 20 bits, and 21. -/
theorem witness_AssembledWordHoldsReceivedBits : 20 ≤ (vD1Bits.take 20).length ∧ 20 ≤ vD1Bits.length := by decide

/-- The five clauses of DecodeFailsWithFirstReason. -/
theorem witness_DecodeFailsWithFirstReason :
    1 < 2 ∧ (2 ≤ 4 ∧ runs tvcReject.val [1000, 1060, 1070, 1090] 4 = .error .gapTooLong) ∧
    (2 ≤ 15 ∧ runs tvc vD1 15 = .ok (vD1Bits.take 19) ∧ (vD1Bits.take 19).length < 20) ∧
    (∃ bits, 2 ≤ 15 ∧
      runs tvc [1000, 1050, 1060, 1090, 1100, 1120, 1130, 1140, 1150, 1160, 1170, 1180, 1190, 1200, 1210] 15 = .ok bits ∧
      20 ≤ bits.length ∧ ∃ j ∈ [15, 10, 5, 0], gcr tvc ((assemble bits).extractLsb' j 5) = none) ∧
    (∃ bits, 2 ≤ 15 ∧ runs tvc vD13 15 = .ok bits ∧ 20 ≤ bits.length ∧
      gcr tvc ((assemble bits).extractLsb' 15 5) = some 0x3#4 ∧ gcr tvc ((assemble bits).extractLsb' 10 5) = some 0xE#4 ∧
      gcr tvc ((assemble bits).extractLsb' 5 5) = some 0x8#4 ∧ gcr tvc ((assemble bits).extractLsb' 0 5) = some 0x4#4 ∧
      0x4#4 ≠ 0x3#4 ^^^ 0xE#4 ^^^ 0x8#4) :=
  ⟨by decide, by decide, by decide,
    ⟨[true, true, true, true, true, false, true, true, true, false, true, true, false, true, false, true, false, true,
      false, true, false], by decide, by decide, by decide, 15, by decide, by decide⟩,
    ⟨vD1Bits.take 15 ++ [true, true, true, false, true, false], by decide, by decide, by decide, by decide, by decide,
      by decide, by decide, by decide⟩⟩

theorem witness_DecodeIsWraparoundInvariant :
    0 < 2 ^ tvc.tickWidth ∧ 65535 < 2 ^ tvc.tickWidth ∧ ∀ t ∈ vD1, t < 2 ^ tvc.tickWidth := by decide

/-- The value of V-D1, with either marker, its stream ending at the last tick before the wrap. -/
theorem witness_SyntheticResponseRoundTrips :
    gcr tvc 0x13#5 = some ((0x3E85#16).extractLsb' 12 4) ∧ gcr tvc 0x0E#5 = some ((0x3E85#16).extractLsb' 8 4) ∧
    gcr tvc 0x1A#5 = some ((0x3E85#16).extractLsb' 4 4) ∧ gcr tvc 0x15#5 = some ((0x3E85#16).extractLsb' 0 4) ∧
    (0x3E85#16).extractLsb' 0 4 = csum12 ((0x3E85#16).extractLsb' 4 12) ∧
    [true, false].all (fun marker =>
      (telemetryStream 0x13#5 0x0E#5 0x1A#5 0x15#5 marker).head? == some tvc.initialLevel &&
      (runLengths (telemetryStream 0x13#5 0x0E#5 0x1A#5 0x15#5 marker)).all (fun k => decide (k ≤ tvc.maxRun))) = true ∧
    65325 + 21 * tvc.rxBitTicks < 2 ^ tvc.tickWidth := by decide

theorem witness_GcrTableInjectiveOnValid : gcr tvcValid.val 0x19#5 = some 0x0#4 := by decide

/-- The two clauses of RpmOfPeriod, the second at the least and the greatest period. -/
theorem witness_RpmOfPeriod : 0#12 = 0#12 ∧ 1#12 ≠ 0#12 ∧ 4095#12 ≠ 0#12 := by decide

theorem witness_InitWritesResetValues :
    (powerOn 5 true).r.configured = false ∧ (powerOn 5 true).initOk = true ∧
    (powerOn 5 false).r.configured = false ∧ (powerOn 5 false).initOk = false := by decide

theorem witness_SecondInitIsRefused : idle.r.configured = true := by decide

theorem witness_UnconfiguredBlockRefuses :
    (powerOn 5 true).r.configured = false ∧
    [Instr.init, .edge, .tick 1#16, .ready, .throttle 0#16].all Instr.wellFormed = true := by decide

/-- Two power-on states that differ in an unspecified field, on which INIT succeeds and READY is refused. -/
theorem witness_PowerOnValuesCannotBeSeen :
    let s := powerOn 5 true
    let t := { powerOn 5 true with r := { junk 5 with state := 0#3, tMark := 1 } }
    s ≠ t ∧ s.r.configured = false ∧ t.r.configured = false ∧ s.r.tick = t.r.tick ∧ s.cfg = t.cfg ∧
      s.stimuli = t.stimuli ∧ s.initAnswers = t.initAnswers ∧ s.initDraws = t.initDraws ∧
      nextIs (exec .init s) (fun s' => s'.r.configured) = true ∧ nextIs (exec .init t) (fun t' => t'.r.configured) = true ∧
      refusedAs (exec .ready s) .notConfigured = true := by decide

theorem witness_SendRequestStartsFrame : idle.r.configured = true ∧ idle.r.state = 0#3 := by decide

theorem witness_BusyRequestIsDropped : sending.r.configured = true ∧ sending.r.state ≠ 0#3 := by decide

/-- GETSTATE at the least and the greatest code. -/
theorem witness_QueriesAnswerAndChangeNothing :
    idle.r.configured = true ∧ idle.r.state.toNat ≤ 4 ∧
    (decoding []).r.configured = true ∧ (decoding []).r.state.toNat = 4 := by decide

theorem witness_PollnewReadsAndClears : idle.r.configured = true := by decide

/-- The first slot and the last. -/
theorem witness_TxslotAppliesNextEntry :
    (sending.r.configured = true ∧ sending.r.txActive = true ∧ sending.r.txIndex = 0#5 ∧
      sending.r.duty[sending.r.txIndex.toNat]? = some 10#16) ∧
    (lastSlot.r.configured = true ∧ lastSlot.r.txActive = true ∧
      lastSlot.r.duty[lastSlot.r.txIndex.toNat]? = some 40#16) := by decide

theorem witness_FrameTakesSeventeenSlots :
    sending.r.configured = true ∧ sending.r.txActive = true ∧ sending.r.txIndex = 0#5 ∧
    sending.r.txDonePending = false ∧ sending.r.duty.length = 17 := by decide

theorem witness_OnlyLastSlotStopsTransmission :
    lastSlot.r.configured = true ∧ lastSlot.r.txActive = true ∧
    nextIs (exec .txslot lastSlot) (fun t => !t.r.txActive) = true := by decide

/-- The event handled in Sending, and in another state. -/
theorem witness_TxdoneHandlesTransmitComplete :
    sent.r.configured = true ∧ sent.r.txDonePending = true ∧ sent.r.state = 1#3 ∧
    (inState 0#3 sent).r.txDonePending = true ∧ (inState 0#3 sent).r.state ≠ 1#3 := by decide

/-- The event handled in Receiving, and a stale one in Decoding. -/
theorem witness_CapfullHandlesBufferFull :
    full.r.configured = true ∧ full.r.capFullPending = true ∧ full.r.state = 3#3 ∧
    (after .advance full).r.configured = true ∧ (after .advance full).r.capFullPending = true ∧
    (after .advance full).r.state = 4#3 := by decide

/-- Idle, where none of the three is enabled, and states where one is. -/
theorem witness_StepWithoutEventIsNotEnabled :
    idle.r.configured = true ∧ idle.r.txActive = false ∧ idle.r.txDonePending = false ∧
    idle.r.capFullPending = false ∧ sending.r.txActive = true ∧ sent.r.txDonePending = true ∧
    full.r.capFullPending = true := by decide

theorem witness_CaptureEndIsOrderIndependent :
    full.Inv ∧ full.r.configured = true ∧ full.r.state = 3#3 ∧ full.r.capFullPending = true :=
  ⟨inv_full, by decide, by decide, by decide⟩

/-- The first edge of a capture, and the one that fills the buffer. -/
theorem witness_EdgeRecordsTick :
    [receiving [] 1000 1000, receiving (List.range 31) 1000 1000].all (fun s =>
      decide (s.r.configured = true ∧ s.r.link = .input ∧ s.r.capArmed = true ∧ s.r.capRemaining ≠ 0#6 ∧
        s.r.capRemaining.toNat ≤ s.cfg.val.edgeCap ∧ s.r.edgeBuf.length = s.cfg.val.edgeCap)) = true := by decide

/-- One state for each way an edge is lost. -/
theorem witness_EdgeOutsideCaptureIsLost :
    (powerOn 0 true).r.configured = false ∧ idle.r.link = .output ∧ (decoding vD1).r.capArmed = false ∧
    full.r.capRemaining = 0#6 := by decide

/-- The least and the greatest count, and the count that is refused. -/
theorem witness_TickAdvancesCounter : 1#16 ≠ 0#16 ∧ 65535#16 ≠ 0#16 ∧ 0#16 = 0#16 := by decide

theorem witness_TickIsRepeatedUnitTick : 1#16 ≠ 0#16 ∧ 65535#16 ≠ 0#16 := by decide

/-- Idle, Sending, and the least and greatest reserved code. -/
theorem witness_AdvanceWaitsInIdleAndSending :
    (idle.r.configured = true ∧ idle.r.state = 0#3) ∧ (sending.r.configured = true ∧ sending.r.state = 1#3) ∧
    5 ≤ (inState 5#3 idle).r.state.toNat ∧ 5 ≤ (inState 7#3 idle).r.state.toNat := by decide

/-- One tick before the delay has elapsed, and when it has, the tick having wrapped. -/
theorem witness_AdvanceArmsCaptureAfterDelay :
    [awaiting 500 529, awaiting 500 530, awaiting 65520 14].all (fun s =>
      decide (s.r.configured = true ∧ s.r.state = 2#3 ∧ s.r.txActive = false ∧
        s.r.tick < 2 ^ s.cfg.val.tickWidth ∧ s.r.tMark < 2 ^ s.cfg.val.tickWidth)) = true ∧
    ¬ tvc.responseDelayTicks ≤ (529 + 2 ^ 16 - 500) % 2 ^ 16 ∧ tvc.responseDelayTicks ≤ (530 + 2 ^ 16 - 500) % 2 ^ 16 := by
  decide

/-- One tick before the timeout, at the timeout, and with the target reached. -/
theorem witness_AdvanceEndsCaptureOnTargetOrTimeout :
    [receiving vD1 530 929, receiving vD1 530 930, full].all (fun s =>
      decide (s.r.configured = true ∧ s.r.state = 3#3 ∧
        s.r.tick < 2 ^ s.cfg.val.tickWidth ∧ s.r.tMark < 2 ^ s.cfg.val.tickWidth)) = true ∧
    ¬ tvc.rxTimeoutTicks ≤ (929 + 2 ^ 16 - 530) % 2 ^ 16 ∧ tvc.rxTimeoutTicks ≤ (930 + 2 ^ 16 - 530) % 2 ^ 16 ∧
    tvc.edgeTarget ≤ tvc.edgeCap - full.r.capRemaining.toNat := by decide

/-- A buffer that decodes and one that does not. -/
theorem witness_AdvanceDecodesAndReturnsToIdle :
    ((decoding vD1).r.configured = true ∧ (decoding vD1).r.state = 4#3 ∧
      (decoding vD1).r.edgeBuf.length = (decoding vD1).cfg.val.edgeCap ∧
      decodeTelemetry tvc (decoding vD1).r.edgeBuf (32 - (decoding vD1).r.capRemaining.toNat) = .ok 1000#12) ∧
    ((decoding []).r.configured = true ∧ (decoding []).r.state = 4#3 ∧
      (decoding []).r.edgeBuf.length = (decoding []).cfg.val.edgeCap ∧
      decodeTelemetry tvc (decoding []).r.edgeBuf (32 - (decoding []).r.capRemaining.toNat) =
        .error .insufficientEdges) := by decide

/-- A state for each of the faults. -/
theorem witness_UnreachableStatesFault :
    5 ≤ (inState 5#3 idle).r.state.toNat ∧ 5 ≤ (inState 7#3 idle).r.state.toNat ∧
    ((inState 2#3 sending).r.txActive = true ∧
      tvc.responseDelayTicks ≤
        tickDelta 16 (inState 2#3 sending).r.tMark (inState 2#3 sending).r.tick) ∧
    nextIs (.next { sending with r := { sending.r with txIndex := 17#5 } })
      (fun s => s.r.txActive && decide (s.r.duty.length ≤ s.r.txIndex.toNat)) = true ∧
    nextIs (.next { receiving [] 0 0 with r := { (receiving [] 0 0).r with edgeBuf := [] } })
      (fun s => s.r.configured && s.r.link == .input && s.r.capArmed && s.r.capRemaining != 0#6 &&
        decide (s.r.edgeBuf.length ≤ 32 - s.r.capRemaining.toNat)) = true ∧
    nextIs (.next { decoding vD1 with r := { (decoding vD1).r with edgeBuf := [] } })
      (fun s => s.r.configured && s.r.state == 4#3 &&
        decide (s.r.edgeBuf.length < 32 - s.r.capRemaining.toNat)) = true := by decide

/-- A step for each row of the transition table. -/
theorem witness_ProtocolStateFollowsTransitionTable :
    [ (Instr.throttle 48#16, idle), (.txdone, sent), (.advance, awaiting 500 530), (.advance, receiving vD1 530 930)
    , (.capfull, full), (.advance, decoding vD1) ].all (fun is =>
      is.2.r.configured && nextIs (exec is.1 is.2) (fun t => t.r.state != is.2.r.state)) = true := by decide

/-- A step that moves each counter, and one that moves none. -/
theorem witness_SessionCountersMoveByOne :
    [(Instr.command 0#16, idle), (.advance, decoding vD1), (.advance, decoding []), (.ready, idle)].all (fun is =>
      is.2.r.configured && nextIs (exec is.1 is.2) (fun _ => true)) = true ∧
    nextIs (exec (.command 0#16) idle) (fun t => t.r.framesSent != idle.r.framesSent) = true := by decide

/-- A decode, and a step that writes no record field. -/
theorem witness_RecordWrittenOnlyByDecode :
    idle.r.configured = true ∧ nextIs (exec .pollnew idle) (fun _ => true) = true ∧
    (decoding vD1).r.configured = true ∧ nextIs (exec .advance (decoding vD1)) (fun t => t.r.valid) = true := by decide

theorem witness_ConfiguredAndValidAreNeverCleared :
    nextIs (exec (.throttle 0#16) (after .advance (decoding vD1))) (fun _ => true) = true ∧
    (after .advance (decoding vD1)).r.configured = true ∧ (after .advance (decoding vD1)).r.valid = true := by decide

/-- A step that writes the duty sequence, and two that write the edge buffer. -/
theorem witness_BuffersHaveTheirWriters :
    [(Instr.throttle 48#16, idle), (.edge, receiving [] 1000 1000), (.advance, awaiting 500 530)].all (fun is =>
      is.2.r.configured && nextIs (exec is.1 is.2) (fun _ => true)) = true ∧
    nextIs (exec (.throttle 48#16) idle) (fun t => t.r.duty != idle.r.duty) = true ∧
    nextIs (exec .edge (receiving [] 1000 1000)) (fun t => t.r.edgeBuf != bufferOf []) = true := by decide

theorem witness_TickMovesOnlyByTick :
    nextIs (exec (.tick 1#16) idle) (fun t => t.r.tick != idle.r.tick) = true ∧
    nextIs (exec .init (powerOn 5 true)) (fun t => t.r.tick == 5) = true := by decide

/-- Sound states, configured and not; a step from each completes. -/
theorem witness_InvariantKeptByEveryStep :
    (idle.present 0x10000030#32).Inv ∧ nextIs (step (idle.present 0x10000030#32)) (fun _ => true) = true ∧
    (full.present 0xA0000000#32).Inv ∧ nextIs (step (full.present 0xA0000000#32)) (fun _ => true) = true ∧
    ((powerOn 5 true).present 0x00000000#32).Inv ∧
    nextIs (step ((powerOn 5 true).present 0x00000000#32)) (fun t => t.r.configured) = true :=
  ⟨inv_idle, by decide, inv_full, by decide, inv_powerOn, by decide⟩

theorem witness_NoFaultFromInvariant : (decoding vD1).Inv ∧ (powerOn 5 true).Inv := ⟨inv_decoding, inv_powerOn⟩

/-- A sound configured state of each protocol state. -/
theorem witness_AdvanceCompletesInEveryState :
    (idle.Inv ∧ idle.r.configured = true) ∧ (sending.Inv ∧ sending.r.configured = true) ∧
    ((awaiting 500 530).Inv ∧ (awaiting 500 530).r.configured = true) ∧
    ((receiving vD1 530 930).Inv ∧ (receiving vD1 530 930).r.configured = true) ∧
    ((decoding vD1).Inv ∧ (decoding vD1).r.configured = true) :=
  ⟨⟨inv_idle, by decide⟩, ⟨inv_sending, by decide⟩, ⟨inv_awaiting, by decide⟩, ⟨inv_receiving, by decide⟩,
    ⟨inv_decoding, by decide⟩⟩

end Sys2Proof.Tests
end

/-! ## The next presented word and the step that takes it -/

namespace Sys2Proof.Machine

theorem State.takeStimulus_cons {s : State} {w : StimWord} {rest : List StimWord} (h : s.stimuli = w :: rest) :
    s.takeStimulus = some (w, { s with stimuli := rest }) := by
  simp only [State.takeStimulus, h]

theorem State.takeStimulus_nil {s : State} (h : s.stimuli = []) : s.takeStimulus = none := by
  simp only [State.takeStimulus, h]

/-- R16, R56: one stimulus to one atomic step. -/
theorem step_of_decode_ok {s s' : State} {w : StimWord} {i : Instr} (htake : s.takeStimulus = some (w, s'))
    (hdec : decode w = .ok i) : step s = exec i s' := by
  simp only [step, htake, hdec]

theorem step_of_no_stimulus {s : State} (htake : s.takeStimulus = none) : step s = .refused .noStimulus := by
  simp only [step, htake]

/-- Settles O7: the list of presented words is not empty, and its head is what `takeStimulus` hands to the decoder, or
it is empty, and nothing is taken. -/
theorem stepRunsTheDecodedStimulus : Obligations.StepRunsTheDecodedStimulus := by
  unfold Obligations.StepRunsTheDecodedStimulus
  constructor
  · intro s w rest i hstim hdec
    exact step_of_decode_ok (State.takeStimulus_cons hstim) hdec
  · intro s hstim
    exact step_of_no_stimulus (State.takeStimulus_nil hstim)

end Sys2Proof.Machine

/-! ## When the shared operations fault -/

namespace Sys2Proof.Machine

theorem Engine.advanceAwaiting_error {c : Config} {r : Engine} {f : Fault} :
    r.advanceAwaiting c = .error f ↔
      c.responseDelayTicks ≤ r.elapsed c ∧ r.txActive = true ∧ f = .linkBusy := by
  unfold Engine.advanceAwaiting Engine.switchToInput
  by_cases hdelay : c.responseDelayTicks ≤ r.elapsed c <;> by_cases htx : r.txActive = true <;>
    simp [hdelay, htx, eq_comm]

theorem Engine.advanceDecoding_error {c : Config} {r : Engine} {f : Fault} :
    r.advanceDecoding c = .error f ↔ r.edgeBuf.length < r.edges c ∧ f = .indexFault := by
  unfold Engine.advanceDecoding Engine.capturedEdges
  by_cases hlen : r.edgeBuf.length < r.edges c <;> simp [hlen, eq_comm]

/-- The codes 0 to 4 are the five protocol states (R23). -/
theorem stateCode_eq_of_le {c : StateCode} (h : c.toNat ≤ 4) :
    c = stIdle ∨ c = stSending ∨ c = stAwaiting ∨ c = stReceiving ∨ c = stDecoding := by
  revert c; decide

/-- The three faults of ADVANCE (R136, R99, R47), each in a protocol state of its own. -/
theorem Engine.advance_error {c : Config} {r : Engine} {f : Fault} :
    r.advance c = .error f ↔
      (5 ≤ r.state.toNat ∧ f = .badState) ∨
      (r.state = stAwaiting ∧ r.advanceAwaiting c = .error f) ∨
      (r.state = stDecoding ∧ r.advanceDecoding c = .error f) := by
  by_cases hstate : r.state.toNat ≤ 4
  · obtain h | h | h | h | h := stateCode_eq_of_le hstate <;> simp [Engine.advance, h]
  · have hreserved (k : StateCode) (hk : k.toNat ≤ 4) : r.state ≠ k := fun h => hstate (h ▸ hk)
    simp only [Engine.advance, hreserved stIdle (by decide), hreserved stSending (by decide),
      hreserved stAwaiting (by decide), hreserved stReceiving (by decide), hreserved stDecoding (by decide)]
    simp [show 5 ≤ r.state.toNat by omega, eq_comm (a := f)]

theorem Engine.edge_error {c : Config} {r : Engine} {f : Fault} :
    r.edge c = .error f ↔ r.captureOpen = true ∧
      (c.edgeCap < r.capRemaining.toNat ∨ r.edgeBuf.length ≤ r.edges c) ∧ f = .indexFault := by
  unfold Engine.edge Engine.captureEdge
  by_cases hopen : r.captureOpen = true <;>
    by_cases hrange : c.edgeCap < r.capRemaining.toNat ∨ r.edgeBuf.length ≤ r.edges c <;>
    simp [hopen, hrange, eq_comm (a := f)]

/-! ## A sound block raises no fault -/

theorem Engine.Sound.advance_ne_error {c : Config} {r : Engine} (h : r.Sound c) (f : Fault) :
    r.advance c ≠ .error f := by
  obtain ⟨hstate, -, -, ⟨hactive, -⟩, ⟨-, -, -, hlen, -⟩, -⟩ := h
  intro herr
  obtain ⟨hreserved, -⟩ | ⟨hst, herr⟩ | ⟨-, herr⟩ := Engine.advance_error.1 herr
  · have : r.state.toNat ≤ 4 := hstate
    omega
  · obtain ⟨-, htx, -⟩ := Engine.advanceAwaiting_error.1 herr
    have hsending := (hactive htx).1
    simp [hst] at hsending
  · obtain ⟨hshort, -⟩ := Engine.advanceDecoding_error.1 herr
    have : r.edges c ≤ c.edgeCap := Nat.sub_le ..
    omega

theorem Engine.Sound.txSlot_ne_error {c : Config} {r : Engine} (h : r.Sound c) (htx : r.txActive = true) (f : Fault) :
    r.txSlot ≠ .error f := by
  obtain ⟨-, -, ⟨hlen, -⟩, ⟨hactive, -⟩, -⟩ := h
  intro herr
  have := (hactive htx).2
  have := (Engine.txSlot_error.1 herr).1
  omega

/-- While room is left in a buffer of `EDGE_CAP` entries, `edges(R)` is an index of it (R31, R32). -/
theorem Engine.edges_lt {c : Config} {r : Engine} (hroom : r.capRemaining ≠ 0#6)
    (hcap : r.capRemaining.toNat ≤ c.edgeCap) : r.edges c < c.edgeCap := by
  unfold Engine.edges
  bv_omega

theorem Engine.Sound.edge_ne_error {c : Config} {r : Engine} (h : r.configured = true → r.Sound c) (f : Fault) :
    r.edge c ≠ .error f := by
  intro herr
  obtain ⟨hopen, hrange, -⟩ := Engine.edge_error.1 herr
  obtain ⟨hconf, -, -, hroom⟩ := Engine.captureOpen_iff.1 hopen
  obtain ⟨-, -, -, -, ⟨-, -, hcap, hlen, -⟩, -⟩ := h hconf
  have := Engine.edges_lt hroom hcap
  omega

theorem State.Inv.exec_ne_fault {s : State} (h : s.Inv) (i : Instr) (f : Fault) : exec i s ≠ .fault f := by
  intro hfault
  obtain ⟨-, hsound⟩ := h
  obtain ⟨-, hconf, hreserved⟩ | ⟨-, hconf, herr⟩ | ⟨-, hconf, htx, herr⟩ | ⟨-, herr⟩ := exec_fault hfault
  · exact hreserved (hsound hconf).1
  · exact (hsound hconf).advance_ne_error f herr
  · exact (hsound hconf).txSlot_ne_error htx f herr
  · exact Engine.Sound.edge_ne_error hsound f herr

/-- Settles O59: a fault of a step is one of ADVANCE, GETSTATE, TXSLOT or EDGE, and a sound block excludes each. -/
theorem noFaultFromInvariant : Obligations.NoFaultFromInvariant := by
  intro s hinv f hfault
  obtain ⟨w, rest, i, -, -, hexec⟩ := step_fault hfault
  exact State.Inv.exec_ne_fault (s := { s with stimuli := rest }) hinv i f hexec

/-! ## Stimuli that reach a fault -/

theorem exec_advance_of_configured {s : State} (h : s.r.configured = true) :
    exec .advance s = s.conclude (s.r.advance s.cfg.val) := State.ifConfigured_of_configured h

theorem exec_txslot_of_active {s : State} (h : s.r.configured = true) (htx : s.r.txActive = true) :
    exec .txslot s = s.conclude s.r.txSlot := by
  simp [exec, execTxslot, State.ifEnabled, Engine.txSlotEnabled, h, htx]

theorem exec_edge (s : State) : exec .edge s = s.conclude (s.r.edge s.cfg.val) := rfl

theorem exec_getstate_of_reserved {s : State} (h : s.r.configured = true) (hst : 5 ≤ s.r.state.toNat) :
    exec .getstate s = .fault .badState := by
  simp [exec, execGetstate, h, show ¬ s.r.state.toNat ≤ 4 by omega]

/-- Settles O50, from what makes each shared operation fault. -/
theorem unreachableStatesFault : Obligations.UnreachableStatesFault := by
  intro s hconf
  rw [exec_advance_of_configured hconf, exec_edge]
  refine ⟨fun hst => ⟨exec_getstate_of_reserved hconf hst, ?_⟩, fun hst htx hdelay => ?_, fun htx hlen => ?_,
    fun hlink harmed hroom hrange => ?_, fun hst hshort => ?_⟩
  · exact State.conclude_fault.2 (Engine.advance_error.2 (.inl ⟨hst, rfl⟩))
  · have herr : s.r.advanceAwaiting s.cfg.val = .error .linkBusy :=
      Engine.advanceAwaiting_error.2 ⟨hdelay, htx, rfl⟩
    exact State.conclude_fault.2 (Engine.advance_error.2 (.inr (.inl ⟨hst, herr⟩)))
  · rw [exec_txslot_of_active hconf htx]
    exact State.conclude_fault.2 (Engine.txSlot_error.2 ⟨hlen, rfl⟩)
  · have hopen := Engine.captureOpen_iff.2 ⟨hconf, hlink, harmed, hroom⟩
    exact State.conclude_fault.2 (Engine.edge_error.2 ⟨hopen, hrange, rfl⟩)
  · have herr : s.r.advanceDecoding s.cfg.val = .error .indexFault :=
      Engine.advanceDecoding_error.2 ⟨hshort, rfl⟩
    exact State.conclude_fault.2 (Engine.advance_error.2 (.inr (.inr ⟨hst, herr⟩)))

/-- Settles O42: the capture is open and the index lies in the buffer, so the edge is captured there. -/
theorem edgeRecordsTick : Obligations.EdgeRecordsTick := by
  intro s hconf hlink harmed hroom hcap hlen
  have hopen := Engine.captureOpen_iff.2 ⟨hconf, hlink, harmed, hroom⟩
  have hidx : s.r.edges s.cfg.val < s.r.edgeBuf.length := hlen ▸ Engine.edges_lt hroom hcap
  have hedge := Engine.edge_ok.2 (.inl ⟨hopen, Engine.captureEdge_ok.2 ⟨hcap, hidx, rfl⟩⟩)
  refine ⟨_, State.conclude_next.2 ⟨_, hedge, rfl⟩, ?_, List.length_set, List.getElem?_set_self hidx,
    fun j hj => List.getElem?_set_ne hj.symm⟩
  by_cases hlast : s.r.capRemaining = 1#6 <;> simp [State.answer, hlast, harmed]

end Sys2Proof.Machine

/-! ## A sound block stays sound under every shared operation -/

namespace Sys2Proof.Machine

/-! ### The bounds a configuration gives -/

theorem idleVal_le_dutyFull (c : Config) : (idleVal c).toNat ≤ c.dutyFull.toNat := by
  unfold idleVal; split <;> simp

/-- R90: no compare value of a bit exceeds `DUTY_FULL`, inverted or not. -/
theorem bitVal_le_dutyFull {c : Config} (hc : c.WF) (b : Bool) : (bitVal c b).toNat ≤ c.dutyFull.toNat := by
  obtain ⟨-, -, -, -, -, -, -, -, ⟨-, hzero, hone⟩, -⟩ := hc
  have hsub (d : Duty) (hd : d.toNat ≤ c.dutyFull.toNat) : (c.dutyFull - d).toNat ≤ c.dutyFull.toNat := by
    rw [BitVec.toNat_sub_of_le hd]
    exact Nat.sub_le ..
  have hzero' : c.dutyZero.toNat ≤ c.dutyFull.toNat := by omega
  unfold bitVal oneVal zeroVal
  split <;> split
  exacts [hsub _ hone, hone, hsub _ hzero', hzero']

theorem dutyMap_length (c : Config) (f : Frame) : (dutyMap c f).length = dutyLen := by simp [dutyMap]

theorem le_dutyFull_of_mem_dutyMap {c : Config} (hc : c.WF) {f : Frame} {d : Duty} (h : d ∈ dutyMap c f) :
    d.toNat ≤ c.dutyFull.toNat := by
  simp only [dutyMap, List.mem_append, List.mem_map, List.mem_singleton] at h
  obtain ⟨i, -, rfl⟩ | rfl := h
  · exact bitVal_le_dutyFull hc _
  · exact idleVal_le_dutyFull c

/-- The capacity fits the 6 bits of the capture counter (R10, R31). -/
theorem edgeCap_toNat {c : Config} (hc : c.WF) : (BitVec.ofNat 6 c.edgeCap).toNat = c.edgeCap := by
  obtain ⟨-, -, -, ⟨-, hmax⟩, -⟩ := hc
  exact BitVec.toNat_ofNat .. ▸ Nat.mod_eq_of_lt (by omega)

theorem edgeCap_ne_zero {c : Config} (hc : c.WF) : BitVec.ofNat 6 c.edgeCap ≠ 0#6 := by
  intro h
  have htoNat := edgeCap_toNat hc
  obtain ⟨-, -, -, ⟨hmin, -⟩, -⟩ := hc
  rw [h] at htoNat
  simp at htoNat
  omega

/-- R37: the electrical reading is at most the numerator. -/
theorem erpmOf_le (p : BitVec 12) : (erpmOf p).toNat ≤ erpmConst := by
  unfold erpmOf
  split
  · simp
  · rw [BitVec.toNat_ofNat]
    exact (Nat.mod_le ..).trans (Nat.div_le_self ..)

theorem mrpmOf_le (c : Config) (p : BitVec 12) : (mrpmOf c p).toNat ≤ 2 * erpmConst / c.motorPoles := by
  unfold mrpmOf
  split
  · simp
  · rw [BitVec.toNat_ofNat]
    have hle : erpmConst / p.toNat * 2 ≤ 2 * erpmConst := by
      rw [Nat.mul_comm]
      exact Nat.mul_le_mul_left 2 (Nat.div_le_self ..)
    exact (Nat.mod_le ..).trans (Nat.div_le_div_right hle)

/-! ### The parts of the invariant, by protocol state -/

theorem Engine.linkOk_of_output {r : Engine} (hst : r.state = stIdle ∨ r.state = stSending ∨ r.state = stAwaiting)
    (hlink : r.link = .output) : r.LinkOk := by
  obtain h | h | h := hst <;> simp [Engine.LinkOk, h, hlink]

theorem Engine.linkOk_of_input {r : Engine} (hst : r.state = stReceiving ∨ r.state = stDecoding)
    (hlink : r.link = .input) : r.LinkOk := by
  obtain h | h := hst <;> simp [Engine.LinkOk, h, hlink]

/-- R146: outside Sending no frame is in flight and none is waiting to be acknowledged. -/
theorem Engine.txOk_iff_of_ne_sending {r : Engine} (hst : r.state ≠ stSending) :
    r.TxOk ↔ r.txActive = false ∧ r.txDonePending = false ∧ r.txIndex.toNat ≤ dutyLen := by
  simp only [Engine.TxOk, hst, false_and, imp_false, Bool.not_eq_true, false_implies, true_and]

theorem Engine.CaptureOk.unarmed {c : Config} {r : Engine} (h : r.CaptureOk c) (hst : r.state ≠ stReceiving) :
    r.capArmed = false := by
  obtain ⟨harmed, -⟩ := h
  exact Bool.eq_false_iff.2 fun harm => hst (harmed harm).1

/-- Disarming the capture, or leaving it disarmed, keeps the rest of what CaptureOk says (R104). -/
theorem Engine.CaptureOk.of_unarmed {c : Config} {r r' : Engine} (h : r.CaptureOk c) (harmed : r'.capArmed = false)
    (hfull : r'.capFullPending = r.capFullPending) (hcap : r'.capRemaining = r.capRemaining)
    (hbuf : r'.edgeBuf = r.edgeBuf) : r'.CaptureOk c := by
  obtain ⟨-, h⟩ := h
  simp only [Engine.CaptureOk, Engine.edges, harmed, hfull, hcap, hbuf]
  exact ⟨nofun, h⟩

/-- A cleared buffer with its whole capacity left (R101, R165). -/
theorem Engine.captureOk_of_cleared {c : Config} (hc : c.WF) {r : Engine}
    (harmed : r.capArmed = true → r.state = stReceiving) (hfull : r.capFullPending = false)
    (hcap : r.capRemaining = BitVec.ofNat 6 c.edgeCap) (hbuf : r.edgeBuf = List.replicate c.edgeCap 0) :
    r.CaptureOk c := by
  simp only [Engine.CaptureOk, hfull, hcap, hbuf, edgeCap_toNat hc, List.length_replicate, List.drop_replicate]
  exact ⟨fun harm => ⟨harmed harm, edgeCap_ne_zero hc⟩, nofun, le_rfl, trivial, List.forall_mem_replicate.2 (.inr rfl)⟩

/-! ### INIT, the send requests, the queries and TICK -/

theorem Engine.initialised_sound {c : Config} (hc : c.WF) (r : Engine) : (r.initialised c).Sound c := by
  have hidle := idleVal_le_dutyFull c
  have hpow := Nat.two_pow_pos c.tickWidth
  exact ⟨by simp, Engine.linkOk_of_output (.inl rfl) rfl,
    ⟨by simp, List.forall_mem_replicate.2 (.inr hidle), hidle⟩,
    (Engine.txOk_iff_of_ne_sending (r := r.initialised c) (by simp)).2 ⟨rfl, rfl, Nat.zero_le _⟩,
    Engine.captureOk_of_cleared hc (by simp) rfl rfl rfl,
    ⟨hpow, hpow, List.forall_mem_replicate.2 (.inr hpow)⟩,
    fun _ => ⟨rfl, rfl, rfl⟩, Nat.zero_le _, Nat.zero_le _, nofun⟩

theorem Engine.Sound.issue {c : Config} {r : Engine} (hc : c.WF) (h : r.Sound c) (v : Arg) (b : Bool) :
    (r.issue c v b).Sound c := by
  by_cases hidle : r.state = stIdle
  · obtain ⟨-, ⟨hout, -⟩, ⟨-, -, hcmp⟩, htx, hcap, hticks, hrec⟩ := h
    obtain ⟨-, hnodone, -⟩ := (Engine.txOk_iff_of_ne_sending (by simp [hidle])).1 htx
    have hunarmed := hcap.unarmed (by simp [hidle])
    rw [Engine.issue_idle hidle]
    exact ⟨by simp, Engine.linkOk_of_output (.inr (.inl rfl)) (hout (.inl hidle)),
      ⟨dutyMap_length c _, fun d => le_dutyFull_of_mem_dutyMap hc, hcmp⟩, by simp [Engine.TxOk, hnodone],
      hcap.of_unarmed hunarmed rfl rfl rfl, hticks, hrec⟩
  · rwa [Engine.issue_busy hidle]

theorem Engine.Sound.clearNewData {c : Config} {r : Engine} (h : r.Sound c) : r.clearNewData.Sound c := by
  obtain ⟨hstate, hlink, hduty, htx, hcap, hticks, hinvalid, herpm, hmrpm, -⟩ := h
  exact ⟨hstate, hlink, hduty, htx, hcap, hticks, hinvalid, herpm, hmrpm, by simp⟩

theorem Engine.Sound.advanceTick {c : Config} {r : Engine} (h : r.Sound c) (k : Arg) : (r.advanceTick c k).Sound c := h

/-! ### The transmission -/

theorem Engine.Sound.txSlot {c : Config} {r r' : Engine} (h : r.Sound c) (hactive : r.txActive = true)
    (hslot : r.txSlot = .ok r') : r'.Sound c := by
  obtain ⟨hstate, hlink, ⟨hlen, hle, -⟩, ⟨htx, hdone, hone, -⟩, hcap, hticks, hrec⟩ := h
  obtain ⟨hsending, hidx⟩ := htx hactive
  have hnodone : r.txDonePending = false := (hone hsending).1 hactive
  obtain ⟨d, hd, rfl⟩ := Engine.txSlot_ok.1 hslot
  have hdle : d.toNat ≤ c.dutyFull.toNat := hle d (List.mem_of_getElem? hd)
  have hnext : (r.txIndex + 1#5).toNat = r.txIndex.toNat + 1 := by
    simp only [dutyLen] at hidx
    bv_omega
  refine ⟨hstate, hlink, ⟨hlen, hle, hdle⟩, ?_, hcap, hticks, hrec⟩
  by_cases hlast : r.txIndex.toNat = 16
  · simp [Engine.TxOk, hlast, hsending, hnext]
  · have hidx' : r.txIndex.toNat + 1 < dutyLen := by
      simp only [dutyLen] at hidx ⊢
      omega
    simp only [Engine.TxOk, hlast, hsending, hnext, hnodone, hactive, hidx', hidx'.le]
    simp

/-- R140: the transmit-complete event of a sound block is never stale. -/
theorem Engine.Sound.txdone {c : Config} {r : Engine} (h : r.Sound c) (htick : r.tick < 2 ^ c.tickWidth)
    (hpending : r.txDonePending = true) :
    (r.clearTxDone.handleEvent stSending Engine.enterAwaiting).Sound c := by
  obtain ⟨-, ⟨hout, -⟩, hduty, ⟨-, hdone, hone, hidx⟩, hcap, ⟨-, hticks⟩, hrec⟩ := h
  have hsending := hdone hpending
  have hinactive : r.txActive = false := by simpa [hpending] using hone hsending
  have hunarmed := hcap.unarmed (by simp [hsending])
  rw [Engine.handleEvent_owner (by exact hsending)]
  exact ⟨by simp, Engine.linkOk_of_output (.inr (.inr rfl)) (hout (.inr (.inl hsending))), hduty,
    (Engine.txOk_iff_of_ne_sending (by simp)).2 ⟨hinactive, rfl, hidx⟩,
    hcap.of_unarmed hunarmed rfl rfl rfl, ⟨htick, hticks⟩, hrec⟩

/-! ### The capture -/

/-- Stopping the capture and entering Decoding keeps a receiving block sound (R104, R138, R141). -/
theorem Engine.Sound.endCapture {c : Config} {r : Engine} (h : r.Sound c) (hst : r.state = stReceiving) :
    r.enterDecoding.Sound c := by
  obtain ⟨-, ⟨-, hin⟩, hduty, htx, hcap, hticks, hrec⟩ := h
  have hquiet := (Engine.txOk_iff_of_ne_sending (by simp [hst])).1 htx
  exact ⟨by simp, Engine.linkOk_of_input (.inr rfl) (hin (.inl hst)), hduty,
    (Engine.txOk_iff_of_ne_sending (by simp)).2 hquiet, hcap.of_unarmed rfl rfl rfl rfl, hticks, hrec⟩

theorem Engine.Sound.clearCapFull {c : Config} {r : Engine} (h : r.Sound c) : r.clearCapFull.Sound c := by
  obtain ⟨hstate, hlink, hduty, htx, ⟨harmed, -, hcap⟩, hticks, hrec⟩ := h
  exact ⟨hstate, hlink, hduty, htx, ⟨harmed, by simp, hcap⟩, hticks, hrec⟩

theorem Engine.Sound.capfull {c : Config} {r : Engine} (h : r.Sound c) :
    (r.clearCapFull.handleEvent stReceiving Engine.enterDecoding).Sound c := by
  by_cases hst : r.clearCapFull.state = stReceiving
  · rw [Engine.handleEvent_owner hst]
    exact h.clearCapFull.endCapture hst
  · rw [Engine.handleEvent_stale hst]
    exact h.clearCapFull

/-- R31: one entry less to go, one edge more. -/
theorem Engine.edges_succ {c : Config} {r : Engine} (hroom : r.capRemaining ≠ 0#6)
    (hcap : r.capRemaining.toNat ≤ c.edgeCap) :
    c.edgeCap - (r.capRemaining - 1#6).toNat = r.edges c + 1 := by
  unfold Engine.edges
  bv_omega

/-- R32: entries at and above the edge count stay 0, the one just written being below it. -/
theorem Engine.Sound.captureEdge {c : Config} {r r' : Engine} (h : r.Sound c) (htick : r.tick < 2 ^ c.tickWidth)
    (hopen : r.captureOpen = true) (hedge : r.captureEdge c = .ok r') : r'.Sound c := by
  obtain ⟨hstate, hlink, hduty, htx, ⟨harmed, hfull, hcap, hlen, hstale⟩, ⟨hmark, hupdate, hbuf⟩, hrec⟩ := h
  obtain ⟨-, -, harm, hroom⟩ := Engine.captureOpen_iff.1 hopen
  have hreceiving := (harmed harm).1
  have hnotfull : r.capFullPending = false := by simpa [hroom] using hfull
  obtain ⟨-, hidx, rfl⟩ := Engine.captureEdge_ok.1 hedge
  have hless : (r.capRemaining - 1#6).toNat ≤ c.edgeCap := by bv_omega
  have hstale' : ∀ t ∈ (r.edgeBuf.set (r.edges c) r.tick).drop (c.edgeCap - (r.capRemaining - 1#6).toNat), t = 0 := by
    rw [Engine.edges_succ hroom hcap, List.drop_set_of_lt (Nat.lt_add_one _), ← List.drop_drop]
    exact fun t ht => hstale t (List.mem_of_mem_drop ht)
  have hbuf' : ∀ t ∈ r.edgeBuf.set (r.edges c) r.tick, t < 2 ^ c.tickWidth := by
    intro t ht
    obtain ht | rfl := List.mem_or_eq_of_mem_set ht
    · exact hbuf t ht
    · exact htick
  refine ⟨hstate, hlink, hduty, htx, ⟨?_, ?_, hless, by simpa using hlen, hstale'⟩, ⟨hmark, hupdate, hbuf'⟩, hrec⟩
  · by_cases hlast : r.capRemaining = 1#6
    · simp [hlast]
    · have : r.capRemaining - 1#6 ≠ 0#6 := by bv_omega
      simp [hlast, hreceiving, this]
  · by_cases hlast : r.capRemaining = 1#6 <;> simp [hlast, hnotfull]

theorem Engine.Sound.edge {c : Config} {r r' : Engine} (h : r.Sound c) (htick : r.tick < 2 ^ c.tickWidth)
    (hedge : r.edge c = .ok r') : r'.Sound c := by
  obtain ⟨hopen, hcapture⟩ | ⟨-, rfl⟩ := Engine.edge_ok.1 hedge
  · exact h.captureEdge htick hopen hcapture
  · exact h

/-! ### The periodic driver -/

theorem Engine.Sound.advanceAwaiting {c : Config} {r r' : Engine} (hc : c.WF) (h : r.Sound c)
    (htick : r.tick < 2 ^ c.tickWidth) (hst : r.state = stAwaiting) (hadv : r.advanceAwaiting c = .ok r') :
    r'.Sound c := by
  obtain ⟨-, -, rfl⟩ | ⟨-, rfl⟩ := Engine.advanceAwaiting_ok.1 hadv
  · obtain ⟨-, -, hduty, htx, -, ⟨-, hupdate, -⟩, hrec⟩ := h
    have hquiet := (Engine.txOk_iff_of_ne_sending (by simp [hst])).1 htx
    exact ⟨by simp, Engine.linkOk_of_input (.inl rfl) rfl, hduty,
      (Engine.txOk_iff_of_ne_sending (by simp)).2 hquiet,
      Engine.captureOk_of_cleared hc (fun _ => rfl) rfl rfl rfl,
      ⟨htick, hupdate, List.forall_mem_replicate.2 (.inr (Nat.two_pow_pos _))⟩, hrec⟩
  · exact h

theorem Engine.Sound.advanceReceiving {c : Config} {r : Engine} (h : r.Sound c) (hst : r.state = stReceiving) :
    (r.advanceReceiving c).Sound c := by
  rw [Engine.advanceReceiving_eq]
  split
  · exact h.endCapture hst
  · exact h

/-- Turning the line back to output and entering Idle keeps a decoding block sound (R100, R139). -/
theorem Engine.Sound.returnToIdle {c : Config} {r : Engine} (h : r.Sound c) (hst : r.state = stDecoding) :
    Engine.Sound c { r.switchToOutput c with state := stIdle } := by
  obtain ⟨-, -, ⟨hlen, hle, -⟩, htx, hcap, hticks, hrec⟩ := h
  have hquiet := (Engine.txOk_iff_of_ne_sending (by simp [hst])).1 htx
  exact ⟨by simp, Engine.linkOk_of_output (.inl rfl) rfl, ⟨hlen, hle, idleVal_le_dutyFull c⟩,
    (Engine.txOk_iff_of_ne_sending (by simp)).2 hquiet, hcap.of_unarmed rfl rfl rfl rfl, hticks, hrec⟩

theorem Engine.Sound.publish {c : Config} {r : Engine} (h : r.Sound c) (htick : r.tick < 2 ^ c.tickWidth)
    (p : BitVec 12) : (r.publish c p).Sound c := by
  obtain ⟨hstate, hlink, hduty, htx, hcap, ⟨hmark, -, hbuf⟩, -⟩ := h
  exact ⟨hstate, hlink, hduty, htx, hcap, ⟨hmark, htick, hbuf⟩, by simp, erpmOf_le p, mrpmOf_le c p, by simp⟩

theorem Engine.Sound.countFailure {c : Config} {r : Engine} (h : r.Sound c) : r.countFailure.Sound c := h

theorem Engine.Sound.advanceDecoding {c : Config} {r r' : Engine} (h : r.Sound c) (htick : r.tick < 2 ^ c.tickWidth)
    (hst : r.state = stDecoding) (hadv : r.advanceDecoding c = .ok r') : r'.Sound c := by
  obtain ⟨-, ⟨p, -, rfl⟩ | ⟨e, -, rfl⟩⟩ := Engine.advanceDecoding_ok.1 hadv
  · exact (h.publish htick p).returnToIdle hst
  · exact h.countFailure.returnToIdle hst

theorem Engine.Sound.advance {c : Config} {r r' : Engine} (hc : c.WF) (h : r.Sound c)
    (htick : r.tick < 2 ^ c.tickWidth) (hadv : r.advance c = .ok r') : r'.Sound c := by
  obtain ⟨-, rfl⟩ | ⟨hst, hadv⟩ | ⟨hst, rfl⟩ | ⟨hst, hadv⟩ := Engine.advance_ok.1 hadv
  · exact h
  · exact h.advanceAwaiting hc htick hst hadv
  · exact h.advanceReceiving hst
  · exact h.advanceDecoding htick hst hadv

/-! ## What the shared operations keep of the session: the flag, the tick, the record -/

/-- `r'` is configured as `r` is, at the same tick, with the same Telemetry Record and new-data flag. -/
structure Engine.SameSession (r r' : Engine) : Prop where
  configured : r'.configured = r.configured
  tick : r'.tick = r.tick
  record : r'.record = r.record
  newData : r'.newData = r.newData

theorem Engine.SameSession.refl (r : Engine) : r.SameSession r := ⟨rfl, rfl, rfl, rfl⟩

theorem Engine.sameSession_of_txSlot {r r' : Engine} (h : r.txSlot = .ok r') : r.SameSession r' := by
  obtain ⟨d, -, rfl⟩ := Engine.txSlot_ok.1 h
  exact ⟨rfl, rfl, rfl, rfl⟩

theorem Engine.sameSession_of_edge {c : Config} {r r' : Engine} (h : r.edge c = .ok r') : r.SameSession r' := by
  obtain ⟨-, hcapture⟩ | ⟨-, rfl⟩ := Engine.edge_ok.1 h
  · obtain ⟨-, -, rfl⟩ := Engine.captureEdge_ok.1 hcapture
    exact ⟨rfl, rfl, rfl, rfl⟩
  · exact .refl _

theorem Engine.sameSession_handleTxDone (r : Engine) :
    r.SameSession (r.clearTxDone.handleEvent stSending Engine.enterAwaiting) := by
  unfold Engine.handleEvent
  split <;> exact ⟨rfl, rfl, rfl, rfl⟩

theorem Engine.sameSession_handleCapFull (r : Engine) :
    r.SameSession (r.clearCapFull.handleEvent stReceiving Engine.enterDecoding) := by
  unfold Engine.handleEvent
  split <;> exact ⟨rfl, rfl, rfl, rfl⟩

theorem Engine.issue_configured (c : Config) (v : Arg) (b : Bool) (r : Engine) :
    (r.issue c v b).configured = r.configured := by
  unfold Engine.issue; split <;> rfl

theorem Engine.issue_tick (c : Config) (v : Arg) (b : Bool) (r : Engine) : (r.issue c v b).tick = r.tick := by
  unfold Engine.issue; split <;> rfl

/-- What ADVANCE does to the session: only the decode step touches the record, and it counts once (R54, R57, R139). -/
theorem Engine.advance_session {c : Config} {r r' : Engine} (h : r.advance c = .ok r') :
    r'.configured = r.configured ∧ r'.tick = r.tick ∧
      ((r'.record = r.record ∧ r'.newData = r.newData) ∨
        (r.state = stDecoding ∧ r'.newData = true ∧ ∃ p, r'.record = { r.record with
          erpm := erpmOf p, mrpm := mrpmOf c p, valid := true, lastUpdate := r.tick, decodeOk := r.decodeOk + 1#32 }) ∨
        (r.state = stDecoding ∧ r'.newData = r.newData ∧
          r'.record = { r.record with decodeFail := r.decodeFail + 1#32 })) := by
  obtain ⟨-, rfl⟩ | ⟨-, h⟩ | ⟨-, rfl⟩ | ⟨hst, h⟩ := Engine.advance_ok.1 h
  · exact ⟨rfl, rfl, .inl ⟨rfl, rfl⟩⟩
  · obtain ⟨-, -, rfl⟩ | ⟨-, rfl⟩ := Engine.advanceAwaiting_ok.1 h <;> exact ⟨rfl, rfl, .inl ⟨rfl, rfl⟩⟩
  · rw [Engine.advanceReceiving_eq]
    split <;> exact ⟨rfl, rfl, .inl ⟨rfl, rfl⟩⟩
  · obtain ⟨-, ⟨p, -, rfl⟩ | ⟨e, -, rfl⟩⟩ := Engine.advanceDecoding_ok.1 h
    · exact ⟨rfl, rfl, .inr (.inl ⟨hst, rfl, p, rfl⟩)⟩
    · exact ⟨rfl, rfl, .inr (.inr ⟨hst, rfl, rfl⟩)⟩

end Sys2Proof.Machine

/-! ## What a stimulus does to the block state, with a name for each case -/

namespace Sys2Proof.Machine

/-- The stimulus `i` takes the block state `r` to the block state it is given with: one case for each shared operation
that a row of the operation map runs (R78). -/
inductive Engine.Moves (c : Config) (r : Engine) : Instr → Engine → Prop where
  | initFails (hconf : r.configured = false) : Moves c r .init r
  | initSucceeds (hconf : r.configured = false) : Moves c r .init (r.initialised c)
  | send {i : Instr} (v : Arg) (b : Bool) (hi : i = .throttle v ∨ i = .command v) (hconf : r.configured = true) :
      Moves c r i (r.issue c v b)
  | query {i : Instr} (hi : i = .ready ∨ i = .getstate ∨ i = .gettelem) (hconf : r.configured = true) : Moves c r i r
  | pollnew (hconf : r.configured = true) : Moves c r .pollnew r.clearNewData
  | advance {r' : Engine} (hconf : r.configured = true) (hr : r.advance c = .ok r') : Moves c r .advance r'
  | txslot {r' : Engine} (hconf : r.configured = true) (hactive : r.txActive = true) (hr : r.txSlot = .ok r') :
      Moves c r .txslot r'
  | txdone (hconf : r.configured = true) (hpending : r.txDonePending = true) :
      Moves c r .txdone (r.clearTxDone.handleEvent stSending Engine.enterAwaiting)
  | capfull (hconf : r.configured = true) (hpending : r.capFullPending = true) :
      Moves c r .capfull (r.clearCapFull.handleEvent stReceiving Engine.enterDecoding)
  | edge {r' : Engine} (hr : r.edge c = .ok r') : Moves c r .edge r'
  | tick (k : Arg) : Moves c r (.tick k) (r.advanceTick c k)

theorem exec_moves {s t : State} {i : Instr} (h : exec i s = .next t) : s.r.Moves s.cfg.val i t.r := by
  obtain ⟨-, -, ⟨rfl, hconf, hr | hr⟩ | ⟨v, b, hi, hconf, hr⟩ | ⟨hi, hconf, hr⟩ | ⟨rfl, hconf, hr⟩ | ⟨rfl, hconf, hr⟩ |
    ⟨rfl, hconf, hactive, hr⟩ | ⟨rfl, hconf, hpending, hr⟩ | ⟨rfl, hconf, hpending, hr⟩ | ⟨rfl, hr⟩ | ⟨k, rfl, hr⟩⟩ :=
    exec_cases h
  · exact hr.symm ▸ .initFails hconf
  · exact hr ▸ .initSucceeds hconf
  · exact hr ▸ .send v b hi hconf
  · exact hr.symm ▸ .query hi hconf
  · exact hr ▸ .pollnew hconf
  · exact .advance hconf hr
  · exact .txslot hconf hactive hr
  · exact hr ▸ .txdone hconf hpending
  · exact hr ▸ .capfull hconf hpending
  · exact .edge hr
  · exact hr ▸ .tick k

/-! ### The tick and the configured flag -/

/-- R34: the tick of the next state is the old one, or the stimulus is TICK. -/
theorem Engine.Moves.tick_cases {c : Config} {r r' : Engine} {i : Instr} (h : r.Moves c i r') :
    r'.tick = r.tick ∨ ∃ k, i = .tick k ∧ r'.tick = tickAdd c.tickWidth r.tick k.toNat := by
  cases h with
  | initFails | initSucceeds | query | pollnew => exact .inl rfl
  | send v b => exact .inl (Engine.issue_tick c v b r)
  | advance _ hr => exact .inl (Engine.advance_session hr).2.1
  | txslot _ _ hr => exact .inl (Engine.sameSession_of_txSlot hr).tick
  | txdone => exact .inl r.sameSession_handleTxDone.tick
  | capfull => exact .inl r.sameSession_handleCapFull.tick
  | edge hr => exact .inl (Engine.sameSession_of_edge hr).tick
  | tick k => exact .inr ⟨k, rfl, rfl⟩

/-- R25, R126: INIT alone moves the configured flag, and it only sets it. -/
theorem Engine.Moves.configured_cases {c : Config} {r r' : Engine} {i : Instr} (h : r.Moves c i r') :
    r'.configured = r.configured ∨ (r.configured = false ∧ r' = r.initialised c) := by
  cases h with
  | initFails | query | pollnew | tick => exact .inl rfl
  | initSucceeds hconf => exact .inr ⟨hconf, rfl⟩
  | send v b => exact .inl (Engine.issue_configured c v b r)
  | advance _ hr => exact .inl (Engine.advance_session hr).1
  | txslot _ _ hr => exact .inl (Engine.sameSession_of_txSlot hr).configured
  | txdone => exact .inl r.sameSession_handleTxDone.configured
  | capfull => exact .inl r.sameSession_handleCapFull.configured
  | edge hr => exact .inl (Engine.sameSession_of_edge hr).configured

/-- Settles O56: the frame of every stimulus, and where its tick comes from. -/
theorem tickMovesOnlyByTick : Obligations.TickMovesOnlyByTick := by
  intro s t i h
  obtain ⟨hcfg, hstimuli, -⟩ := exec_cases h
  refine ⟨hcfg, hstimuli, fun hne => ?_⟩
  obtain hsame | ⟨k, hi, -⟩ := (exec_moves h).tick_cases
  · exact absurd hsame hne
  · exact ⟨k, hi⟩

/-! ### The invariant -/

theorem Engine.Moves.tick_lt {c : Config} {r r' : Engine} {i : Instr} (h : r.Moves c i r')
    (htick : r.tick < 2 ^ c.tickWidth) : r'.tick < 2 ^ c.tickWidth := by
  obtain hsame | ⟨k, -, hadd⟩ := h.tick_cases
  · rwa [hsame]
  · exact hadd ▸ tickAdd_lt ..

theorem Engine.Sound.moves {c : Config} {r r' : Engine} {i : Instr} (hc : c.WF) (hs : r.Sound c)
    (htick : r.tick < 2 ^ c.tickWidth) (h : r.Moves c i r') : r'.Sound c := by
  cases h with
  | initFails | query => exact hs
  | initSucceeds => exact r.initialised_sound hc
  | send v b => exact hs.issue hc v b
  | pollnew => exact hs.clearNewData
  | advance _ hr => exact hs.advance hc htick hr
  | txslot _ hactive hr => exact hs.txSlot hactive hr
  | txdone _ hpending => exact hs.txdone htick hpending
  | capfull => exact hs.capfull
  | edge hr => exact hs.edge htick hr
  | tick k => exact hs.advanceTick k

theorem State.Inv.exec {s t : State} {i : Instr} (hinv : s.Inv) (h : exec i s = .next t) : t.Inv := by
  obtain ⟨htick, hsound⟩ := hinv
  obtain ⟨hcfg, -, -⟩ := exec_cases h
  have hmove := exec_moves h
  rw [State.Inv, hcfg]
  refine ⟨hmove.tick_lt htick, fun hconf => ?_⟩
  obtain hsame | ⟨-, hinit⟩ := hmove.configured_cases
  · exact (hsound (hsame ▸ hconf)).moves s.cfg.2 htick hmove
  · exact hinit ▸ s.r.initialised_sound s.cfg.2

/-- Settles O57: a step runs one stimulus, and every stimulus keeps the invariant, whichever shared operation it is. -/
theorem invariantKeptByEveryStep : Obligations.InvariantKeptByEveryStep := by
  intro s t hinv h
  obtain ⟨w, rest, i, -, -, hexec⟩ := step_next h
  exact State.Inv.exec (s := { s with stimuli := rest }) hinv hexec

/-! ### The protocol state -/

theorem Engine.txSlot_state {r r' : Engine} (h : r.txSlot = .ok r') : r'.state = r.state := by
  obtain ⟨d, -, rfl⟩ := Engine.txSlot_ok.1 h
  rfl

theorem Engine.edge_state {c : Config} {r r' : Engine} (h : r.edge c = .ok r') : r'.state = r.state := by
  obtain ⟨-, hcapture⟩ | ⟨-, rfl⟩ := Engine.edge_ok.1 h
  · obtain ⟨-, -, rfl⟩ := Engine.captureEdge_ok.1 hcapture
    rfl
  · rfl

theorem Engine.issue_state_cases (c : Config) (v : Arg) (b : Bool) (r : Engine) :
    (r.issue c v b).state = r.state ∨ (r.state = stIdle ∧ (r.issue c v b).state = stSending) := by
  by_cases hidle : r.state = stIdle
  · exact .inr ⟨hidle, by rw [Engine.issue_idle hidle]⟩
  · exact .inl (by rw [Engine.issue_busy hidle])

theorem Engine.handleEvent_state_cases (o : StateCode) (f : Engine → Engine) (r : Engine) :
    (r.handleEvent o f).state = r.state ∨ (r.state = o ∧ r.handleEvent o f = f r) := by
  by_cases howner : r.state = o
  · exact .inr ⟨howner, Engine.handleEvent_owner howner⟩
  · exact .inl (by rw [Engine.handleEvent_stale howner])

/-- R136: ADVANCE makes at most one transition, out of the state it finds. -/
theorem Engine.advance_state_cases {c : Config} {r r' : Engine} (h : r.advance c = .ok r') :
    r'.state = r.state ∨ (r.state = stAwaiting ∧ r'.state = stReceiving) ∨
      (r.state = stReceiving ∧ r'.state = stDecoding) ∨ (r.state = stDecoding ∧ r'.state = stIdle) := by
  obtain ⟨-, rfl⟩ | ⟨hst, h⟩ | ⟨hst, rfl⟩ | ⟨hst, h⟩ := Engine.advance_ok.1 h
  · exact .inl rfl
  · obtain ⟨-, -, rfl⟩ | ⟨-, rfl⟩ := Engine.advanceAwaiting_ok.1 h
    · exact .inr (.inl ⟨hst, rfl⟩)
    · exact .inl rfl
  · rw [Engine.advanceReceiving_eq]
    split
    · exact .inr (.inr (.inl ⟨hst, rfl⟩))
    · exact .inl rfl
  · obtain ⟨-, ⟨p, -, rfl⟩ | ⟨e, -, rfl⟩⟩ := Engine.advanceDecoding_ok.1 h <;> exact .inr (.inr (.inr ⟨hst, rfl⟩))

/-- Settles O51: the shared operations that move the protocol state, each with its row of the table. -/
theorem protocolStateFollowsTransitionTable : Obligations.ProtocolStateFollowsTransitionTable := by
  intro s t i hconf h hne
  have hmove := exec_moves h
  generalize t.r = r' at hmove hne ⊢
  cases hmove with
  | initFails | query | pollnew | tick => exact absurd rfl hne
  | initSucceeds hunconf => simp [hconf] at hunconf
  | send v b hi =>
    obtain hsame | ⟨hidle, hsending⟩ := s.r.issue_state_cases s.cfg.val v b
    · exact absurd hsame hne
    · exact .inl ⟨hidle, hsending, v, hi⟩
  | advance _ hr =>
    obtain hsame | ⟨hfrom, hto⟩ | ⟨hfrom, hto⟩ | ⟨hfrom, hto⟩ := Engine.advance_state_cases hr
    · exact absurd hsame hne
    · exact .inr (.inr (.inl ⟨hfrom, hto, rfl⟩))
    · exact .inr (.inr (.inr (.inl ⟨hfrom, hto, .inl rfl⟩)))
    · exact .inr (.inr (.inr (.inr ⟨hfrom, hto, rfl⟩)))
  | txslot _ _ hr => exact absurd (Engine.txSlot_state hr) hne
  | txdone _ hpending =>
    obtain hsame | ⟨howner, heq⟩ := s.r.clearTxDone.handleEvent_state_cases stSending Engine.enterAwaiting
    · exact absurd hsame hne
    · exact .inr (.inl ⟨howner, by rw [heq]; rfl, rfl, hpending⟩)
  | capfull _ hpending =>
    obtain hsame | ⟨howner, heq⟩ := s.r.clearCapFull.handleEvent_state_cases stReceiving Engine.enterDecoding
    · exact absurd hsame hne
    · exact .inr (.inr (.inr (.inl ⟨howner, by rw [heq]; rfl, .inr ⟨rfl, hpending⟩⟩)))
  | edge hr => exact absurd (Engine.edge_state hr) hne

/-! ### The Telemetry Record and the new-data flag -/

/-- R54: the four ways a step of a configured block treats the record: it leaves it, an accepted send request counts a
frame, and the decode step publishes a reading or counts a failure. -/
theorem Engine.Moves.record_cases {c : Config} {r r' : Engine} {i : Instr} (hconf : r.configured = true)
    (h : r.Moves c i r') :
    (r'.record = r.record ∧ (r'.newData = true → r.newData = true)) ∨
    (r.state = stIdle ∧ (∃ v, i = .throttle v ∨ i = .command v) ∧ r'.newData = r.newData ∧
      r'.record = { r.record with framesSent := r.framesSent + 1#32 }) ∨
    (i = .advance ∧ r.state = stDecoding ∧ r'.newData = true ∧ ∃ p, r'.record = { r.record with
      erpm := erpmOf p, mrpm := mrpmOf c p, valid := true, lastUpdate := r.tick, decodeOk := r.decodeOk + 1#32 }) ∨
    (i = .advance ∧ r.state = stDecoding ∧ r'.newData = r.newData ∧
      r'.record = { r.record with decodeFail := r.decodeFail + 1#32 }) := by
  have hkeep {r'' : Engine} (hsame : r.SameSession r'') :
      r''.record = r.record ∧ (r''.newData = true → r.newData = true) := ⟨hsame.record, hsame.newData ▸ id⟩
  cases h with
  | initFails | query | tick => exact .inl ⟨rfl, id⟩
  | initSucceeds hunconf => simp [hconf] at hunconf
  | send v b hi =>
    by_cases hidle : r.state = stIdle
    · exact .inr (.inl ⟨hidle, ⟨v, hi⟩, by rw [Engine.issue_idle hidle], by rw [Engine.issue_idle hidle]; rfl⟩)
    · exact .inl (by rw [Engine.issue_busy hidle]; exact ⟨rfl, id⟩)
  | pollnew => exact .inl ⟨rfl, nofun⟩
  | advance _ hr =>
    obtain ⟨-, -, ⟨hrec, hnew⟩ | ⟨hst, hok⟩ | ⟨hst, hfail⟩⟩ := Engine.advance_session hr
    · exact .inl ⟨hrec, hnew ▸ id⟩
    · exact .inr (.inr (.inl ⟨rfl, hst, hok⟩))
    · exact .inr (.inr (.inr ⟨rfl, hst, hfail⟩))
  | txslot _ _ hr => exact .inl (hkeep (Engine.sameSession_of_txSlot hr))
  | txdone => exact .inl (hkeep r.sameSession_handleTxDone)
  | capfull => exact .inl (hkeep r.sameSession_handleCapFull)
  | edge hr => exact .inl (hkeep (Engine.sameSession_of_edge hr))

/-- The record is its seven fields (R36). -/
theorem Engine.record_eq_iff {r : Engine} {rec : TelemetryRecord} :
    r.record = rec ↔ r.erpm = rec.erpm ∧ r.mrpm = rec.mrpm ∧ r.valid = rec.valid ∧ r.lastUpdate = rec.lastUpdate ∧
      r.framesSent = rec.framesSent ∧ r.decodeOk = rec.decodeOk ∧ r.decodeFail = rec.decodeFail := by
  obtain ⟨⟩ := rec
  simp [Engine.record]

/-- Settles O52, from the four ways a step treats the record. -/
theorem sessionCountersMoveByOne : Obligations.SessionCountersMoveByOne := by
  intro s t i hconf h
  obtain ⟨hrec, -⟩ | ⟨hidle, hi, -, hrec⟩ | ⟨hi, hst, -, p, hrec⟩ | ⟨hi, hst, -, hrec⟩ :=
    (exec_moves h).record_cases hconf
  all_goals obtain ⟨-, -, -, -, hsent, hok, hfail⟩ := Engine.record_eq_iff.1 hrec
  · exact ⟨.inl hsent, .inl ⟨hok, hfail⟩⟩
  · exact ⟨.inr ⟨hsent, hidle, hi⟩, .inl ⟨hok, hfail⟩⟩
  · exact ⟨.inl hsent, .inr ⟨hi, hst, .inl ⟨hok, hfail⟩⟩⟩
  · exact ⟨.inl hsent, .inr ⟨hi, hst, .inr ⟨hok, hfail⟩⟩⟩

/-- Settles O53, from the four ways a step treats the record. -/
theorem recordWrittenOnlyByDecode : Obligations.RecordWrittenOnlyByDecode := by
  intro s t i hconf h
  obtain ⟨hrec, hnew⟩ | ⟨-, -, hnew, hrec⟩ | ⟨hi, hst, hnew, p, hrec⟩ | ⟨-, -, hnew, hrec⟩ :=
    (exec_moves h).record_cases hconf
  all_goals obtain ⟨herpm, hmrpm, hvalid, hupdate, -, hok, -⟩ := Engine.record_eq_iff.1 hrec
  · exact .inl ⟨herpm, hmrpm, hvalid, hupdate, hnew⟩
  · exact .inl ⟨herpm, hmrpm, hvalid, hupdate, hnew ▸ id⟩
  · exact .inr ⟨hi, hst, hvalid, hnew, hupdate, hok⟩
  · exact .inl ⟨herpm, hmrpm, hvalid, hupdate, hnew ▸ id⟩

/-- Settles O54: INIT, which alone clears validity, is refused on a configured block, and a decode only sets it. -/
theorem configuredAndValidAreNeverCleared : Obligations.ConfiguredAndValidAreNeverCleared := by
  intro s t i h hconf
  constructor
  · obtain hsame | ⟨hunconf, -⟩ := (exec_moves h).configured_cases
    · exact hsame.trans hconf
    · simp [hconf] at hunconf
  · obtain ⟨-, -, hvalid, -⟩ | ⟨-, -, hvalid, -⟩ := recordWrittenOnlyByDecode s t i hconf h
    · exact fun hset => hvalid.trans hset
    · exact fun _ => hvalid

end Sys2Proof.Machine

/-! ## Who writes the frame, the duty sequence and the edge buffer -/

namespace Sys2Proof.Machine

/-- `r'` holds the frame, the duty sequence and the edge buffer of `r`. -/
structure Engine.SameBuffers (r r' : Engine) : Prop where
  frame : r'.frame = r.frame
  duty : r'.duty = r.duty
  edgeBuf : r'.edgeBuf = r.edgeBuf

theorem Engine.SameBuffers.refl (r : Engine) : r.SameBuffers r := ⟨rfl, rfl, rfl⟩

theorem Engine.sameBuffers_of_txSlot {r r' : Engine} (h : r.txSlot = .ok r') : r.SameBuffers r' := by
  obtain ⟨d, -, rfl⟩ := Engine.txSlot_ok.1 h
  exact ⟨rfl, rfl, rfl⟩

theorem Engine.sameBuffers_handleTxDone (r : Engine) :
    r.SameBuffers (r.clearTxDone.handleEvent stSending Engine.enterAwaiting) := by
  unfold Engine.handleEvent
  split <;> exact ⟨rfl, rfl, rfl⟩

theorem Engine.sameBuffers_handleCapFull (r : Engine) :
    r.SameBuffers (r.clearCapFull.handleEvent stReceiving Engine.enterDecoding) := by
  unfold Engine.handleEvent
  split <;> exact ⟨rfl, rfl, rfl⟩

theorem Engine.issue_edgeBuf (c : Config) (v : Arg) (b : Bool) (r : Engine) :
    (r.issue c v b).edgeBuf = r.edgeBuf := by
  unfold Engine.issue; split <;> rfl

/-- R102: an edge that is captured takes one entry of the edge buffer, any other is lost. -/
theorem Engine.edge_buffers {c : Config} {r r' : Engine} (h : r.edge c = .ok r') :
    r.SameBuffers r' ∨ (r.captureOpen = true ∧ r'.frame = r.frame ∧ r'.duty = r.duty ∧
      r'.edgeBuf = r.edgeBuf.set (r.edges c) r.tick) := by
  obtain ⟨hopen, hcapture⟩ | ⟨-, rfl⟩ := Engine.edge_ok.1 h
  · obtain ⟨-, -, rfl⟩ := Engine.captureEdge_ok.1 hcapture
    exact .inr ⟨hopen, rfl, rfl, rfl⟩
  · exact .inl (.refl _)

/-- R136, R101: of the transitions of ADVANCE only the one that arms the capture touches a buffer; it clears it. -/
theorem Engine.advance_buffers {c : Config} {r r' : Engine} (h : r.advance c = .ok r') :
    r.SameBuffers r' ∨ (r.state = stAwaiting ∧ r'.frame = r.frame ∧ r'.duty = r.duty ∧
      r'.edgeBuf = List.replicate c.edgeCap 0) := by
  obtain ⟨-, rfl⟩ | ⟨hst, h⟩ | ⟨-, rfl⟩ | ⟨-, h⟩ := Engine.advance_ok.1 h
  · exact .inl (.refl _)
  · obtain ⟨-, -, rfl⟩ | ⟨-, rfl⟩ := Engine.advanceAwaiting_ok.1 h
    · exact .inr ⟨hst, rfl, rfl, rfl⟩
    · exact .inl (.refl _)
  · rw [Engine.advanceReceiving_eq]
    split <;> exact .inl ⟨rfl, rfl, rfl⟩
  · obtain ⟨-, ⟨p, -, rfl⟩ | ⟨e, -, rfl⟩⟩ := Engine.advanceDecoding_ok.1 h <;> exact .inl ⟨rfl, rfl, rfl⟩

/-- R47, R52, R53: the four ways a step of a configured block treats its buffers: it leaves them, an accepted send
request writes the frame and its duty sequence, a captured edge takes an entry of the edge buffer, and the arming
ADVANCE clears it. -/
theorem Engine.Moves.buffer_cases {c : Config} {r r' : Engine} {i : Instr} (hconf : r.configured = true)
    (h : r.Moves c i r') :
    r.SameBuffers r' ∨
    (r.state = stIdle ∧ (∃ v, i = .throttle v ∨ i = .command v) ∧ r'.edgeBuf = r.edgeBuf) ∨
    (i = .edge ∧ r.captureOpen = true ∧ r'.frame = r.frame ∧ r'.duty = r.duty ∧
      r'.edgeBuf = r.edgeBuf.set (r.edges c) r.tick) ∨
    (i = .advance ∧ r.state = stAwaiting ∧ r'.frame = r.frame ∧ r'.duty = r.duty ∧
      r'.edgeBuf = List.replicate c.edgeCap 0) := by
  cases h with
  | initFails | query | pollnew | tick => exact .inl ⟨rfl, rfl, rfl⟩
  | initSucceeds hunconf => simp [hconf] at hunconf
  | send v b hi =>
    by_cases hidle : r.state = stIdle
    · exact .inr (.inl ⟨hidle, ⟨v, hi⟩, r.issue_edgeBuf c v b⟩)
    · exact .inl (by rw [Engine.issue_busy hidle]; exact .refl _)
  | advance _ hr => exact (Engine.advance_buffers hr).imp_right fun harm => .inr (.inr ⟨rfl, harm⟩)
  | txslot _ _ hr => exact .inl (Engine.sameBuffers_of_txSlot hr)
  | txdone => exact .inl r.sameBuffers_handleTxDone
  | capfull => exact .inl r.sameBuffers_handleCapFull
  | edge hr => exact (Engine.edge_buffers hr).imp_right fun hcapture => .inr (.inl ⟨rfl, hcapture⟩)

/-- Settles O55, from the four ways a step treats the buffers: in each, a buffer it leaves cannot differ. -/
theorem buffersHaveTheirWriters : Obligations.BuffersHaveTheirWriters := by
  intro s t i hconf h
  have hkept (hframe : t.r.frame = s.r.frame) (hduty : t.r.duty = s.r.duty) :
      ¬ (t.r.duty ≠ s.r.duty ∨ t.r.frame ≠ s.r.frame) := by simp [hframe, hduty]
  obtain ⟨hframe, hduty, hbuf⟩ | ⟨hidle, hi, hbuf⟩ | ⟨hi, hopen, hframe, hduty, -⟩ |
    ⟨hi, hst, hframe, hduty, -⟩ := (exec_moves h).buffer_cases hconf
  · exact ⟨(absurd · (hkept hframe hduty)), fun hne => absurd hbuf hne⟩
  · exact ⟨fun _ => ⟨hidle, hi⟩, fun hne => absurd hbuf hne⟩
  · obtain ⟨-, hlink, harmed, -⟩ := Engine.captureOpen_iff.1 hopen
    exact ⟨(absurd · (hkept hframe hduty)), fun _ => .inl ⟨hi, harmed, hlink⟩⟩
  · exact ⟨(absurd · (hkept hframe hduty)), fun _ => .inr ⟨hi, hst⟩⟩

end Sys2Proof.Machine

/-! ## The stimulus words: `decode` and `encode` are inverse to each other -/

namespace Sys2Proof

/-! ### The fields of a word -/

/-- R77: a word is its three fields. -/
theorem word_of_fields (w : StimWord) : opField w ++ rsvField w ++ argField w = w := by
  ext j hj
  grind [opField, rsvField, argField]

theorem opField_toNat (w : StimWord) : (opField w).toNat = w.toNat / 2 ^ 28 := by
  have := w.isLt
  rw [opField, BitVec.extractLsb'_toNat, Nat.shiftRight_eq_div_pow]
  omega

theorem rsvField_toNat (w : StimWord) : (rsvField w).toNat = w.toNat / 2 ^ 16 % 2 ^ 12 := by
  rw [rsvField, BitVec.extractLsb'_toNat, Nat.shiftRight_eq_div_pow]

theorem argField_toNat (w : StimWord) : (argField w).toNat = w.toNat % 2 ^ 16 := by
  rw [argField, BitVec.extractLsb'_toNat, Nat.shiftRight_zero]

theorem encode_fields (i : Instr) :
    opField (encode i) = i.op ∧ rsvField (encode i) = 0#12 ∧ argField (encode i) = i.arg :=
  Laws.word_fields i.op i.arg

/-- R77, R82: the words of the stimuli of one operation code and argument. -/
theorem encode_eq_iff {i : Instr} {w : StimWord} :
    encode i = w ↔ rsvField w = 0#12 ∧ i.op = opField w ∧ i.arg = argField w := by
  constructor
  · rintro rfl
    obtain ⟨hop, hrsv, harg⟩ := encode_fields i
    exact ⟨hrsv, hop.symm, harg.symm⟩
  · rintro ⟨hrsv, hop, harg⟩
    rw [encode, hop, harg, ← hrsv, word_of_fields]

/-! ### The operation map on fields -/

theorem withoutArg_eq_ok {i j : Instr} {arg : Arg} : withoutArg i arg = .ok j ↔ arg = 0#16 ∧ i = j := by
  unfold withoutArg
  split <;> simp [*]

theorem withoutArg_eq_error {i : Instr} {arg : Arg} {why : Reject} :
    withoutArg i arg = .error why ↔ arg ≠ 0#16 ∧ why = .nonzeroArg arg := by
  unfold withoutArg
  split <;> simp [*, eq_comm]

/-- R78: a well-formed stimulus is what the operation map gives for its own code and argument. -/
theorem decodeFields_op_arg {i : Instr} (h : i.wellFormed = true) : decodeFields i.op i.arg = .ok i := by
  cases i with
  | tick k =>
    have hk : k ≠ 0#16 := by simpa [Instr.wellFormed] using h
    simp [decodeFields, Instr.op, Instr.arg, hk]
  | _ => rfl

/-- R78, R80: the stimulus the operation map gives has the code and the argument it was given for, and is well
formed. -/
theorem fields_of_decodeFields {op : BitVec 4} {arg : Arg} {i : Instr} (h : decodeFields op arg = .ok i) :
    i.op = op ∧ i.arg = arg ∧ i.wellFormed = true := by
  unfold decodeFields at h
  split at h
  case h_2 hop => cases h; exact ⟨BitVec.eq_of_toNat_eq hop.symm, rfl, rfl⟩
  case h_3 hop => cases h; exact ⟨BitVec.eq_of_toNat_eq hop.symm, rfl, rfl⟩
  case h_13 hop =>
    split at h
    · cases h
    · next harg => cases h; exact ⟨BitVec.eq_of_toNat_eq hop.symm, rfl, by simpa [Instr.wellFormed] using harg⟩
  case h_14 => cases h
  all_goals
    next hop =>
    obtain ⟨rfl, rfl⟩ := withoutArg_eq_ok.1 h
    exact ⟨BitVec.eq_of_toNat_eq hop.symm, rfl, rfl⟩

/-! ### `decode` and `encode` -/

theorem decode_of_rsv_zero {w : StimWord} (h : rsvField w = 0#12) : decode w = decodeFields (opField w) (argField w) :=
  if_pos h

theorem decode_of_rsv_nonzero {w : StimWord} (h : rsvField w ≠ 0#12) :
    decode w = .error (.reservedField (rsvField w)) :=
  if_neg h

/-- R77, R78, R80, R82: a word decodes to a stimulus exactly when it is the word of that stimulus and the stimulus is
well formed. -/
theorem decode_eq_ok {w : StimWord} {i : Instr} : decode w = .ok i ↔ encode i = w ∧ i.wellFormed = true := by
  rw [encode_eq_iff]
  constructor
  · intro h
    by_cases hrsv : rsvField w = 0#12
    · obtain ⟨hop, harg, hwf⟩ := fields_of_decodeFields (decode_of_rsv_zero hrsv ▸ h)
      exact ⟨⟨hrsv, hop, harg⟩, hwf⟩
    · simp [decode_of_rsv_nonzero hrsv] at h
  · rintro ⟨⟨hrsv, hop, harg⟩, hwf⟩
    rw [decode_of_rsv_zero hrsv, ← hop, ← harg, decodeFields_op_arg hwf]

/-- Settles O1: one direction of `decode_eq_ok`. -/
theorem decodeOfEncodeIsIdentity : Obligations.DecodeOfEncodeIsIdentity :=
  fun _ hwf => decode_eq_ok.2 ⟨rfl, hwf⟩

/-- Settles O2: the other direction of `decode_eq_ok`. -/
theorem encodeOfDecodeIsIdentity : Obligations.EncodeOfDecodeIsIdentity :=
  fun _ _ hdec => decode_eq_ok.1 hdec

/-! ### The operation map as masks and patterns -/

/-- R77: two words with the same three fields are one word. -/
theorem word_ext_iff {w v : StimWord} :
    w = v ↔ opField w = opField v ∧ rsvField w = rsvField v ∧ argField w = argField v := by
  refine ⟨by rintro rfl; exact ⟨rfl, rfl, rfl⟩, fun ⟨hop, hrsv, harg⟩ => ?_⟩
  rw [← word_of_fields w, hop, hrsv, harg, word_of_fields]

/-- R78: every row fixes `op` and `rsv`, the latter at 0, and either fixes the argument at 0 or leaves it free. -/
theorem opTable_fields : ∀ row ∈ opTable,
    opField row.mask = BitVec.allOnes 4 ∧ rsvField row.mask = BitVec.allOnes 12 ∧
    rsvField row.pattern = 0#12 ∧ argField row.pattern = 0#16 := by decide

theorem covers_iff_fields {row : OpRow} {w : StimWord} (hrow : row ∈ opTable) :
    row.covers w = true ↔
      opField w = opField row.pattern ∧ rsvField w = 0#12 ∧ argField w &&& argField row.mask = 0#16 := by
  obtain ⟨hop, hrsv, hprsv, hparg⟩ := opTable_fields row hrow
  have hand : opField (w &&& row.mask) = opField w ∧ rsvField (w &&& row.mask) = rsvField w ∧
      argField (w &&& row.mask) = argField w &&& argField row.mask := by
    refine ⟨?_, ?_, BitVec.extractLsb'_and⟩
    · rw [opField, BitVec.extractLsb'_and, ← opField, ← opField, hop, BitVec.and_allOnes]
    · rw [rsvField, BitVec.extractLsb'_and, ← rsvField, ← rsvField, hrsv, BitVec.and_allOnes]
  rw [OpRow.covers, beq_iff_eq, word_ext_iff, hand.1, hand.2.1, hand.2.2, hprsv, hparg]

theorem Instr.op_lt_length (i : Instr) : i.op.toNat < opTable.length := by
  cases i <;> simp [Instr.op, opTable]

/-- The row of a stimulus: the rows of the operation map stand in the order of their operation codes (R78). -/
def Instr.row (i : Instr) : OpRow := opTable[i.op.toNat]'i.op_lt_length

theorem Instr.row_mem (i : Instr) : i.row ∈ opTable := List.getElem_mem _

theorem Instr.row_of_op {i j : Instr} (h : i.op = j.op) : i.row = j.row := by
  simp only [Instr.row, h]

theorem Instr.row_mnemonic (i : Instr) : i.row.mnemonic.toList = Machine.mnemonicOf i := by
  cases i <;> rfl

theorem opTable_getElem_op : ∀ n : Fin opTable.length, opField opTable[n].pattern = BitVec.ofNat 4 n := by decide

theorem Instr.row_opField (i : Instr) : opField i.row.pattern = i.op := by
  exact (opTable_getElem_op ⟨i.op.toNat, i.op_lt_length⟩).trans (BitVec.ofNat_toNat ..)

theorem Instr.row_covers_encode (i : Instr) : i.row.covers (encode i) = true := by
  obtain ⟨hop, hrsv, harg⟩ := encode_fields i
  have hhigh (a : Arg) : a &&& argField 0xFFFF0000#32 = 0#16 := by
    rw [show argField 0xFFFF0000#32 = 0#16 by decide, BitVec.and_zero]
  have hfree : i.arg &&& argField i.row.mask = 0#16 := by
    cases i with
    | throttle a | command a | tick a => exact hhigh a
    | _ => rfl
  exact (covers_iff_fields i.row_mem).2 ⟨hop.trans i.row_opField.symm, hrsv, harg ▸ hfree⟩

/-- R78: the arguments a row leaves free are those of its stimuli. -/
theorem exists_stimulus_of_row {row : OpRow} {a : Arg} (hrow : row ∈ opTable)
    (ha : a &&& argField row.mask = 0#16) : ∃ i : Instr, i.row = row ∧ i.arg = a := by
  have fixed (h : argField row.mask = BitVec.allOnes 16) : 0#16 = a := by
    rw [h, BitVec.and_allOnes] at ha
    exact ha.symm
  simp only [opTable, List.mem_cons, List.not_mem_nil, or_false] at hrow
  obtain rfl | rfl | rfl | rfl | rfl | rfl | rfl | rfl | rfl | rfl | rfl | rfl | rfl := hrow
  · exact ⟨.init, rfl, fixed rfl⟩
  · exact ⟨.throttle a, rfl, rfl⟩
  · exact ⟨.command a, rfl, rfl⟩
  · exact ⟨.ready, rfl, fixed rfl⟩
  · exact ⟨.getstate, rfl, fixed rfl⟩
  · exact ⟨.gettelem, rfl, fixed rfl⟩
  · exact ⟨.pollnew, rfl, fixed rfl⟩
  · exact ⟨.advance, rfl, fixed rfl⟩
  · exact ⟨.txslot, rfl, fixed rfl⟩
  · exact ⟨.txdone, rfl, fixed rfl⟩
  · exact ⟨.capfull, rfl, fixed rfl⟩
  · exact ⟨.edge, rfl, fixed rfl⟩
  · exact ⟨.tick a, rfl, rfl⟩

/-- R78: the words of a row are the words of its stimuli, TICK 0 among them. -/
theorem exists_encode_of_covers {row : OpRow} {w : StimWord} (hrow : row ∈ opTable) (h : row.covers w = true) :
    ∃ i : Instr, i.row = row ∧ encode i = w := by
  obtain ⟨hop, hrsv, hfree⟩ := (covers_iff_fields hrow).1 h
  obtain ⟨i, rfl, harg⟩ := exists_stimulus_of_row hrow hfree
  exact ⟨i, rfl, encode_eq_iff.2 ⟨hrsv, i.row_opField.symm.trans hop.symm, harg⟩⟩

/-- R80: the one word of a row that decodes to nothing is TICK 0. -/
theorem wellFormed_iff_encode_ne {i : Instr} : i.wellFormed = true ↔ encode i ≠ 0xC0000000#32 := by
  have htick (j : Instr) : j.wellFormed = true → encode j ≠ 0xC0000000#32 := by
    intro hwf heq
    have hdec := decode_eq_ok.2 ⟨heq, hwf⟩
    simp [show decode 0xC0000000#32 = .error .tickZero from rfl] at hdec
  refine ⟨htick i, fun hne => ?_⟩
  cases i with
  | tick k =>
    have hk : k ≠ 0#16 := by rintro rfl; exact hne rfl
    simpa [Instr.wellFormed] using hk
  | _ => rfl

/-- Settles O3: the words of the rows are the words of the stimuli, and of these only TICK 0 is not well formed. -/
theorem decodeFollowsOperationMap : Obligations.DecodeFollowsOperationMap := by
  refine ⟨fun w => ⟨?_, ?_⟩, ?_⟩
  · rintro ⟨i, hdec⟩
    obtain ⟨rfl, hwf⟩ := decode_eq_ok.1 hdec
    exact ⟨⟨i.row, i.row_mem, i.row_covers_encode⟩, wellFormed_iff_encode_ne.1 hwf⟩
  · rintro ⟨⟨row, hrow, hcovers⟩, hne⟩
    obtain ⟨i, -, rfl⟩ := exists_encode_of_covers hrow hcovers
    exact ⟨i, decode_eq_ok.2 ⟨rfl, wellFormed_iff_encode_ne.2 hne⟩⟩
  · intro w i row hdec hrow hcovers
    obtain ⟨rfl, -⟩ := decode_eq_ok.1 hdec
    obtain ⟨j, rfl, hencode⟩ := exists_encode_of_covers hrow hcovers
    have hop : j.op = i.op := by rw [← (encode_fields j).1, hencode, (encode_fields i).1]
    rw [Instr.row_of_op hop, i.row_mnemonic]

theorem opTable_op_pairwise : opTable.Pairwise (fun a b => opField a.pattern ≠ opField b.pattern) := by decide

/-- Settles O4: a row covers words of its own operation code only. -/
theorem operationRowsDisjoint : Obligations.OperationRowsDisjoint := by
  refine opTable_op_pairwise.imp_of_mem fun {a b} ha hb hne w ⟨hcovera, hcoverb⟩ => hne ?_
  obtain ⟨hopa, -, -⟩ := (covers_iff_fields ha).1 hcovera
  obtain ⟨hopb, -, -⟩ := (covers_iff_fields hb).1 hcoverb
  exact hopa.symm.trans hopb

/-! ### The reserved words -/

/-- R80 on the fields of a word whose `rsv` is 0. -/
theorem exists_decodeFields_error {op : BitVec 4} {arg : Arg} :
    (∃ why, decodeFields op arg = .error why) ↔
      0xD ≤ op.toNat ∨ (arg.toNat ≠ 0 ∧ op.toNat ≠ 1 ∧ op.toNat ≠ 2 ∧ op.toNat ≠ 0xC) ∨
        (op.toNat = 0xC ∧ arg.toNat = 0) := by
  have harg : arg.toNat = 0 ↔ arg = 0#16 := BitVec.toNat_eq_nat.trans (by simp)
  unfold decodeFields
  split
  case h_2 hop | h_3 hop => simp [hop]
  case h_13 hop => split <;> simp [*]
  case h_14 =>
    simp only [imp_false] at *
    have hreserved : 0xD ≤ op.toNat := by omega
    simp [hreserved]
  all_goals
    next hop => simp [hop, withoutArg_eq_error, harg]

/-- R80 on the whole word. -/
theorem exists_decode_error {w : StimWord} :
    (∃ why, decode w = .error why) ↔
      (0xD ≤ w.toNat / 2 ^ 28 ∨ w.toNat / 2 ^ 16 % 2 ^ 12 ≠ 0 ∨
        (w.toNat % 2 ^ 16 ≠ 0 ∧ w.toNat / 2 ^ 28 ≠ 1 ∧ w.toNat / 2 ^ 28 ≠ 2 ∧ w.toNat / 2 ^ 28 ≠ 0xC) ∨
        (w.toNat / 2 ^ 28 = 0xC ∧ w.toNat % 2 ^ 16 = 0)) := by
  have hzero : rsvField w = 0#12 ↔ w.toNat / 2 ^ 16 % 2 ^ 12 = 0 := by
    rw [← BitVec.toNat_inj, rsvField_toNat, BitVec.toNat_ofNat, Nat.zero_mod]
  by_cases hrsv : rsvField w = 0#12
  · rw [decode_of_rsv_zero hrsv, exists_decodeFields_error, opField_toNat, argField_toNat]
    have := hzero.1 hrsv
    omega
  · have := mt hzero.2 hrsv
    exact iff_of_true ⟨_, decode_of_rsv_nonzero hrsv⟩ (.inr (.inl this))

end Sys2Proof

/-! ## The step on a presented word -/

namespace Sys2Proof.Machine

theorem State.ifConfigured_reserved {s : State} {k : Host.Outcome State Fault Refusal} {why : Reject}
    (h : s.ifConfigured k = .refused (.reserved why)) : k = .refused (.reserved why) := by
  unfold State.ifConfigured at h
  split at h
  · exact h
  · simp at h

theorem State.ifEnabled_reserved {s : State} {e : Bool} {k : Host.Outcome State Fault Refusal} {why : Reject}
    (h : s.ifEnabled e k = .refused (.reserved why)) : k = .refused (.reserved why) := by
  have hgate := State.ifConfigured_reserved h
  cases e with
  | true => exact hgate
  | false => simp at hgate

/-- R142: TICK 0 is the one stimulus whose meaning refuses it as reserved. -/
theorem exec_reserved {s : State} {i : Instr} {why : Reject} (h : exec i s = .refused (.reserved why)) :
    i = .tick 0#16 := by
  cases i with
  | init => simp only [exec, execInit] at h; split at h <;> simp at h
  | getstate => have := State.ifConfigured_reserved h; split at this <;> simp at this
  | throttle v | command v | ready | gettelem | pollnew => simpa using State.ifConfigured_reserved h
  | advance => exact absurd (State.ifConfigured_reserved h) State.conclude_not_refused
  | txslot => exact absurd (State.ifEnabled_reserved h) State.conclude_not_refused
  | txdone | capfull => simpa using State.ifEnabled_reserved h
  | edge => exact absurd h State.conclude_not_refused
  | tick k =>
    simp only [exec, execTick] at h
    split at h
    · next hk => rw [hk]
    · simp at h

theorem step_of_decode_error {s s' : State} {w : StimWord} {why : Reject} (htake : s.takeStimulus = some (w, s'))
    (hdec : decode w = .error why) : step s = .refused (.reserved why) := by
  simp only [step, htake, hdec]

/-- The step refuses a word as reserved exactly where the decoder does: what it decodes to is well formed, and so no
TICK 0. -/
theorem step_reserved_iff {s s' : State} {w : StimWord} {why : Reject} (htake : s.takeStimulus = some (w, s')) :
    step s = .refused (.reserved why) ↔ decode w = .error why := by
  cases hdec : decode w with
  | error e => simp [step_of_decode_error htake hdec]
  | ok i =>
    rw [step_of_decode_ok htake hdec]
    simp only [reduceCtorEq, iff_false]
    intro hexec
    obtain ⟨-, hwf⟩ := decode_eq_ok.1 hdec
    simp [exec_reserved hexec, Instr.wellFormed] at hwf

/-- Settles O5: the step refuses where the decoder rejects, and the decoder rejects the words of R80. -/
theorem reservedWordsAreRefused : Obligations.ReservedWordsAreRefused := by
  intro s w rest hstim
  simp only [step_reserved_iff (State.takeStimulus_cons hstim)]
  exact exists_decode_error

/-- Settles O6: the decoder is run on each word. -/
theorem sampleWordsDecodeAsTheSpecSays : Obligations.SampleWordsDecodeAsTheSpecSays := by
  have rejected {w : StimWord} {why : Reject} (h : decode w = .error why) (i : Instr) : decode w ≠ .ok i := by
    simp [h]
  exact ⟨rfl, rfl, rfl, rfl, rfl, rfl, rfl, rfl, rfl, rfl, rfl, rfl, rfl, rfl, rejected rfl, rejected rfl, rejected rfl,
    rejected rfl, rejected rfl, rejected rfl, rejected rfl⟩

/-- The load of log entry 1: all 32 bits of the word stand before the words that wait. -/
theorem State.takeStimulus_withFetchWord (s : State) (w : StimWord) :
    (s.withFetchWord 32 w.toNat).takeStimulus = some (w, s) := by
  rw [State.withFetchWord, Nat.mod_eq_of_lt w.isLt, BitVec.ofNat_toNat, BitVec.setWidth_eq]
  rfl

/-- Settles O8: the word taken is the presented one, and it decodes to its stimulus (O1). -/
theorem presentedWordRunsNext : Obligations.PresentedWordRunsNext :=
  fun s i hwf => step_of_decode_ok (s.takeStimulus_withFetchWord (encode i)) (decodeOfEncodeIsIdentity i hwf)

end Sys2Proof.Machine

/-! ## The telemetry decoder reads back what the reference transmitter sends -/

namespace Sys2Proof.Machine

/-! ### The GCR table -/

theorem gcr_eq_some {c : Config} {s : Symbol} {x : Nibble} : gcr c s = some x ↔ c.gcrTable[s.toNat]? = some (some x) :=
  Option.join_eq_some_iff

/-- R73: two entries of an admitted table do not hold the same nibble. -/
theorem gcrTable_not_same_of_lt {t : List (Option Nibble)} (ht : GcrTableOk t) {i j : Nat} {x : Nibble} (hij : i < j)
    (hi : t[i]? = some (some x)) (hj : t[j]? = some (some x)) : False := by
  obtain ⟨hilt, hi⟩ := List.getElem?_eq_some_iff.1 hi
  obtain ⟨hjlt, hj⟩ := List.getElem?_eq_some_iff.1 hj
  have := List.pairwise_iff_getElem.1 ht.2 i j hilt hjlt hij
  simp [hi, hj] at this

/-- Settles O25: of two different symbols one stands before the other in the table. -/
theorem gcrTableInjectiveOnValid : Obligations.GcrTableInjectiveOnValid := by
  intro c a b x ha hb
  obtain ⟨-, -, -, -, -, -, -, -, -, ht⟩ := c.2
  rw [gcr_eq_some] at ha hb
  obtain hlt | heq | hgt := Nat.lt_trichotomy a.toNat b.toNat
  · exact (gcrTable_not_same_of_lt ht hlt ha hb).elim
  · exact BitVec.eq_of_toNat_eq heq
  · exact (gcrTable_not_same_of_lt ht hgt hb ha).elim

/-! ### The runs of a noise-free response -/

theorem tickDelta_add (w a d : Nat) : tickDelta w a (a + d) = d := by
  simp [tickDelta]

/-- R112: a whole number of bit periods, up to the cap, is that number of bits. -/
theorem roundRun_mul {c : Config} {k : Nat} (hP : 2 ≤ c.rxBitTicks) (hk : 1 ≤ k) (hmax : k ≤ c.maxRun) :
    roundRun c (k * c.rxBitTicks) = .ok k := by
  have hdiv : (k * c.rxBitTicks + c.rxBitTicks / 2) / c.rxBitTicks = k := by
    rw [Nat.add_comm, Nat.add_mul_div_right _ _ (by omega), Nat.div_eq_of_lt (by omega), Nat.zero_add]
  simp only [roundRun, hdiv, Nat.max_eq_right hk, if_pos hmax]

/-- R114: a run that fits into 21 bits is appended whole. -/
theorem runsFrom_cons {c : Config} {bits : List Bool} {level : Bool} {prev next k : Nat} {rest : List Nat}
    (hround : roundRun c (tickDelta c.tickWidth prev next) = .ok k) (hfit : bits.length + k ≤ 21) :
    runsFrom c bits level prev (next :: rest) =
      if bits.length + k = 21 then .ok (bits ++ List.replicate k level)
      else runsFrom c (bits ++ List.replicate k level) (!level) next rest := by
  have hmin : min k (telemBits - bits.length) = k := by
    rw [telemBits_eq]
    omega
  simp only [runsFrom, hround, hmin, List.length_append, List.length_replicate]

theorem edgeTimes_eq_cons (p t : Nat) (ks : List Nat) : edgeTimes p t ks = t :: (edgeTimes p t ks).tail := by
  cases ks <;> rfl

theorem length_edgeTimes (p t : Nat) (ks : List Nat) : (edgeTimes p t ks).length = ks.length + 1 := by
  induction ks generalizing t with
  | nil => rfl
  | cons k ks ih => simp [edgeTimes, ih]

theorem runLengthsFrom_self (level : Bool) (k : Nat) (xs : List Bool) :
    runLengthsFrom level k (level :: xs) = runLengthsFrom level (k + 1) xs := by
  simp [runLengthsFrom]

theorem runLengthsFrom_not (level : Bool) (k : Nat) (xs : List Bool) :
    runLengthsFrom level k ((!level) :: xs) = k :: runLengthsFrom (!level) 1 xs := by
  simp [runLengthsFrom]

theorem runLengthsFrom_ne_nil (level : Bool) (k : Nat) (xs : List Bool) : runLengthsFrom level k xs ≠ [] := by
  induction xs generalizing k with
  | nil => simp [runLengthsFrom]
  | cons b xs ih =>
    obtain rfl | rfl := Bool.eq_or_eq_not b level
    · exact runLengthsFrom_self .. ▸ ih (k + 1)
    · simp [runLengthsFrom_not]

/-- R114, R124: the first edge after a run of `k` noise-free bits gives back the run. -/
theorem runsFrom_run {c : Config} {bits : List Bool} {level : Bool} {t k : Nat} {rest : List Nat}
    (hP : 2 ≤ c.rxBitTicks) (hk : 1 ≤ k) (hmax : k ≤ c.maxRun) (hfit : bits.length + k ≤ 21) :
    runsFrom c bits level t ((t + k * c.rxBitTicks) :: rest) =
      if bits.length + k = 21 then .ok (bits ++ List.replicate k level)
      else runsFrom c (bits ++ List.replicate k level) (!level) (t + k * c.rxBitTicks) rest :=
  runsFrom_cons (by rw [tickDelta_add, roundRun_mul hP hk hmax]) hfit

/-- R124: the run at hand being `k` bits long so far, the decoder recovers it and the bits `xs` still to come. -/
theorem runsFrom_edgeTimes {c : Config} (hP : 2 ≤ c.rxBitTicks) {xs bits : List Bool} {level : Bool} {k t : Nat}
    (hk : 1 ≤ k) (hlen : bits.length + k + xs.length = 21) (hmax : ∀ j ∈ runLengthsFrom level k xs, j ≤ c.maxRun) :
    runsFrom c bits level t (edgeTimes c.rxBitTicks t (runLengthsFrom level k xs)).tail =
      .ok (bits ++ List.replicate k level ++ xs) := by
  induction xs generalizing bits level k t with
  | nil =>
    rw [List.length_nil] at hlen
    have hkmax : k ≤ c.maxRun := hmax k (List.mem_singleton_self k)
    simp only [runLengthsFrom, edgeTimes, List.tail_cons]
    rw [runsFrom_run hP hk hkmax (by omega), if_pos (by omega), List.append_nil]
  | cons b xs ih =>
    rw [List.length_cons] at hlen
    obtain rfl | rfl := Bool.eq_or_eq_not b level
    · rw [runLengthsFrom_self] at hmax ⊢
      rw [ih (by omega) (by omega) hmax, List.replicate_succ', List.append_assoc, List.append_assoc, List.append_assoc,
        List.singleton_append]
    · rw [runLengthsFrom_not] at hmax ⊢
      have hkmax : k ≤ c.maxRun := hmax k List.mem_cons_self
      rw [edgeTimes, List.tail_cons, edgeTimes_eq_cons, runsFrom_run hP hk hkmax (by omega), if_neg (by omega),
        ih (le_refl 1) (by simp; omega) fun j hj => hmax j (List.mem_cons_of_mem _ hj)]
      simp

theorem runs_edgeTimes {c : Config} (hP : 2 ≤ c.rxBitTicks) {stream : List Bool} (t : Nat) (hlen : stream.length = 21)
    (hhead : stream.head? = some c.initialLevel) (hmax : ∀ k ∈ runLengths stream, k ≤ c.maxRun) :
    runs c (edgeTimes c.rxBitTicks t (runLengths stream)) (edgeTimes c.rxBitTicks t (runLengths stream)).length =
      .ok stream := by
  obtain ⟨xs, rfl⟩ := List.head?_eq_some_iff.1 hhead
  rw [List.length_cons] at hlen
  rw [runs, List.take_length, edgeTimes_eq_cons, runLengths]
  exact runsFrom_edgeTimes hP (le_refl 1) (by simp; omega) hmax

/-! ### The bits of a response -/

/-- The value of a list of bits, most significant first, below the value `g` (R116). -/
def shiftIn (g : Nat) (bits : List Bool) : Nat := bits.foldl (fun g b => 2 * g + b.toNat) g

theorem assemble_eq (bits : List Bool) : assemble bits = BitVec.ofNat 20 (shiftIn 0 (bits.take 20)) := rfl

theorem shiftIn_append (g : Nat) (xs ys : List Bool) : shiftIn g (xs ++ ys) = shiftIn (shiftIn g xs) ys :=
  List.foldl_append

theorem shiftIn_eq_add (g : Nat) (bits : List Bool) : shiftIn g bits = 2 ^ bits.length * g + shiftIn 0 bits := by
  induction bits generalizing g with
  | nil => simp [shiftIn]
  | cons b bits ih =>
    change shiftIn (2 * g + b.toNat) bits = _ + shiftIn (2 * 0 + b.toNat) bits
    rw [ih, ih (2 * 0 + b.toNat), List.length_cons]
    ring

@[simp] theorem length_symbolBits (s : Symbol) : (symbolBits s).length = 5 := by simp [symbolBits]

@[simp] theorem length_telemetryStream (s0 s1 s2 s3 : Symbol) (marker : Bool) :
    (telemetryStream s0 s1 s2 s3 marker).length = 21 := by simp [telemetryStream]

/-- R69: a symbol is sent most significant bit first. -/
theorem shiftIn_symbolBits (g : Nat) (s : Symbol) : shiftIn g (symbolBits s) = 32 * g + s.toNat := by
  have hzero : ∀ s : Symbol, shiftIn 0 (symbolBits s) = s.toNat := by decide
  rw [shiftIn_eq_add, hzero, length_symbolBits]
  rfl

/-- R116, R68: the GCR word of a response is its four symbols, the first received most significant; the marker is
dropped. -/
theorem assemble_telemetryStream_toNat (s0 s1 s2 s3 : Symbol) (marker : Bool) :
    (assemble (telemetryStream s0 s1 s2 s3 marker)).toNat =
      32768 * s0.toNat + 1024 * s1.toNat + 32 * s2.toNat + s3.toNat := by
  have htake : (telemetryStream s0 s1 s2 s3 marker).take 20 =
      symbolBits s0 ++ symbolBits s1 ++ symbolBits s2 ++ symbolBits s3 :=
    List.take_left' (by simp)
  rw [assemble_eq, htake]
  simp only [shiftIn_append, shiftIn_symbolBits, BitVec.toNat_ofNat]
  omega

theorem extractLsb'_assemble {s0 s1 s2 s3 : Symbol} {marker : Bool} :
    (assemble (telemetryStream s0 s1 s2 s3 marker)).extractLsb' 15 5 = s0 ∧
    (assemble (telemetryStream s0 s1 s2 s3 marker)).extractLsb' 10 5 = s1 ∧
    (assemble (telemetryStream s0 s1 s2 s3 marker)).extractLsb' 5 5 = s2 ∧
    (assemble (telemetryStream s0 s1 s2 s3 marker)).extractLsb' 0 5 = s3 := by
  refine ⟨?_, ?_, ?_, ?_⟩ <;> apply BitVec.eq_of_toNat_eq <;>
    rw [BitVec.extractLsb'_toNat, assemble_telemetryStream_toNat, Nat.shiftRight_eq_div_pow] <;> omega

/-- R118: a value is its four nibbles. -/
theorem value_of_nibbles (v : BitVec 16) :
    v.extractLsb' 12 4 ++ v.extractLsb' 8 4 ++ v.extractLsb' 4 4 ++ v.extractLsb' 0 4 = v := by
  simp only [BitVec.extractLsb'_append_extractLsb'_eq_extractLsb', BitVec.extractLsb'_eq_self]

theorem decodeSymbols_telemetryStream {c : Config} {s0 s1 s2 s3 : Symbol} {v : BitVec 16} (marker : Bool)
    (h0 : gcr c s0 = some (v.extractLsb' 12 4)) (h1 : gcr c s1 = some (v.extractLsb' 8 4))
    (h2 : gcr c s2 = some (v.extractLsb' 4 4)) (h3 : gcr c s3 = some (v.extractLsb' 0 4)) :
    decodeSymbols c (assemble (telemetryStream s0 s1 s2 s3 marker)) = .ok v := by
  obtain ⟨hs0, hs1, hs2, hs3⟩ := extractLsb'_assemble (s0 := s0) (s1 := s1) (s2 := s2) (s3 := s3) (marker := marker)
  simp only [decodeSymbols, hs0, hs1, hs2, hs3, h0, h1, h2, h3, value_of_nibbles]

/-- R119: a value whose checksum agrees gives its period. -/
theorem checkValue_ok {v : BitVec 16} (h : v.extractLsb' 0 4 = csum12 (v.extractLsb' 4 12)) :
    checkValue v = .ok (v.extractLsb' 4 12) := if_pos h

/-- R115 to R120: what the steps of a decode that does not fail give. -/
theorem decodeTelemetry_ok {c : Config} {buf : List Nat} {n : Nat} {bits : List Bool} {v : BitVec 16}
    {period : BitVec 12} (hn : 2 ≤ n) (hruns : runs c buf n = .ok bits) (hlen : 20 ≤ bits.length)
    (hsymbols : decodeSymbols c (assemble bits) = .ok v) (hcheck : checkValue v = .ok period) :
    decodeTelemetry c buf n = .ok period := by
  rw [decodeTelemetry, if_neg (by omega), hruns]
  simp only [decodeBits]
  rw [if_neg (by simpa using hlen), hsymbols]
  exact hcheck

theorem two_le_length_edgeTimes {stream : List Bool} (h : stream ≠ []) (p t : Nat) :
    2 ≤ (edgeTimes p t (runLengths stream)).length := by
  obtain ⟨b, xs, rfl⟩ := List.exists_cons_of_ne_nil h
  have := List.length_pos_iff.2 (runLengthsFrom_ne_nil b 1 xs)
  rw [length_edgeTimes, runLengths]
  omega

/-- Settles O24: the runs are recovered by induction on the stream, the symbols from the word they assemble to. The
edge times are not reduced modulo `2 ^ W`, so that no counter wraps holds of them as they stand. -/
theorem syntheticResponseRoundTrips : Obligations.SyntheticResponseRoundTrips := by
  intro c s0 s1 s2 s3 v marker t h0 h1 h2 h3 hcsum hhead hmax _ edges
  obtain ⟨-, hP, -⟩ := c.2
  have hlen := length_telemetryStream s0 s1 s2 s3 marker
  have hne : telemetryStream s0 s1 s2 s3 marker ≠ [] := List.ne_nil_of_length_eq_add_one hlen
  have hruns := runs_edgeTimes hP t hlen hhead hmax
  have hsymbols := decodeSymbols_telemetryStream marker h0 h1 h2 h3
  have hedges := two_le_length_edgeTimes hne c.val.rxBitTicks t
  exact ⟨hruns, hsymbols, decodeTelemetry_ok hedges hruns (by simp [hlen]) hsymbols (checkValue_ok hcsum)⟩

end Sys2Proof.Machine

/-! ## The assembler emits legal words -/

namespace Sys2Proof.Machine

/-! ### The shorthands -/

theorem wellFormed_tick {k : Arg} : (Instr.tick k).wellFormed = true ↔ k ≠ 0#16 := bne_iff_ne

/-- R83: the words of `TICKS n` are TICKs of a count that is not 0. -/
theorem mem_ticks {n : Nat} {i : Instr} (h : i ∈ ticks n) : ∃ k, i = .tick k ∧ k ≠ 0#16 := by
  rw [ticks, List.mem_append] at h
  obtain hfull | hrest := h
  · exact ⟨65535#16, List.eq_of_mem_replicate hfull, by decide⟩
  · split at hrest
    · cases hrest
    · next hmod =>
      refine ⟨_, List.mem_singleton.1 hrest, fun hzero => hmod ?_⟩
      have hval := congrArg BitVec.toNat hzero
      rw [BitVec.toNat_ofNat, BitVec.toNat_ofNat] at hval
      omega

/-- R83: the counts of `TICKS n` add up to `n`. -/
theorem sum_ticks (n : Nat) : ((ticks n).map (fun i => i.arg.toNat)).sum = n := by
  have hrest : ((if n % 65535 = 0 then [] else [Instr.tick (BitVec.ofNat 16 (n % 65535))]).map
      (fun i => i.arg.toNat)).sum = n % 65535 := by
    split
    · next hmod => exact hmod.symm
    · simp only [List.map_cons, List.map_nil, List.sum_singleton, Instr.arg, BitVec.toNat_ofNat]
      omega
  rw [ticks, List.map_append, List.sum_append, hrest, List.map_replicate, List.sum_replicate, smul_eq_mul]
  exact Nat.div_add_mod' n 65535

/-- Settles O9: the words are `mem_ticks`, their counts `sum_ticks`. -/
theorem ticksShorthandAddsUp : Obligations.TicksShorthandAddsUp :=
  fun n _ => ⟨fun _ hi => mem_ticks hi, sum_ticks n⟩

/-- Every stimulus of the list is one the encoding admits (R78). -/
def AllWellFormed (is : List Instr) : Prop := ∀ i ∈ is, i.wellFormed = true

theorem allWellFormed_singleton {i : Instr} : AllWellFormed [i] ↔ i.wellFormed = true := List.forall_mem_singleton

theorem allWellFormed_sendFrame : AllWellFormed sendFrame := by
  rw [AllWellFormed]
  decide

theorem allWellFormed_ticks (n : Nat) : AllWellFormed (ticks n) := by
  intro i hi
  obtain ⟨k, rfl, hk⟩ := mem_ticks hi
  exact wellFormed_tick.2 hk

theorem allWellFormed_gapThenEdge (d : Arg) : AllWellFormed (gapThenEdge d) := by
  unfold gapThenEdge
  split
  · exact allWellFormed_singleton.2 rfl
  · next hd => exact List.forall_mem_cons.2 ⟨wellFormed_tick.2 hd, allWellFormed_singleton.2 rfl⟩

theorem allWellFormed_edgesAt (ds : List Arg) : AllWellFormed (edgesAt ds) := by
  refine List.forall_mem_cons.2 ⟨rfl, fun i hi => ?_⟩
  obtain ⟨is, his, hmem⟩ := List.mem_flatten.1 hi
  obtain ⟨d, -, rfl⟩ := List.mem_map.1 his
  exact allWellFormed_gapThenEdge d i hmem

theorem wellFormed_of_mem_plainStimuli : ∀ i ∈ plainStimuli, i.wellFormed = true := by decide

/-! ### Lines -/

/-- R80: whatever line the assembler takes, the stimuli it gives are ones the encoding admits. -/
theorem allWellFormed_of_assembleWords {ws : List (List Char)} {is : List Instr} (h : assembleWords ws = some is) :
    AllWellFormed is := by
  unfold assembleWords at h
  split at h
  · cases h
    exact List.forall_mem_nil _
  · split at h
    · cases h
      exact allWellFormed_sendFrame
    · obtain ⟨i, hi, rfl⟩ := Option.map_eq_some_iff.1 h
      exact allWellFormed_singleton.2 (wellFormed_of_mem_plainStimuli i (List.mem_of_find?_eq_some hi))
  · split_ifs at h
    · obtain ⟨ds, -, rfl⟩ := Option.map_eq_some_iff.1 h
      exact allWellFormed_edgesAt ds
    · obtain ⟨v, -, rfl⟩ := Option.map_eq_some_iff.1 h
      exact allWellFormed_singleton.2 rfl
    · obtain ⟨v, -, rfl⟩ := Option.map_eq_some_iff.1 h
      exact allWellFormed_singleton.2 rfl
    · obtain ⟨k, -, hk⟩ := Option.bind_eq_some_iff.1 h
      split at hk
      · cases hk
      · next hne =>
        cases hk
        exact allWellFormed_singleton.2 (wellFormed_tick.2 hne)
    · obtain ⟨n, -, hn⟩ := Option.bind_eq_some_iff.1 h
      split at hn
      · cases hn
      · cases hn
        exact allWellFormed_ticks n

theorem allWellFormed_of_assembleLine {l : List Char} {is : List Instr} (h : assembleLine l = some is) :
    AllWellFormed is := by
  obtain ⟨l', -, hwords⟩ := assembleLine_eq_some.1 h
  exact allWellFormed_of_assembleWords hwords

theorem map_decode_encode {is : List Instr} (h : AllWellFormed is) :
    (is.map encode).map decode = is.map Except.ok := by
  rw [List.map_map]
  exact List.map_congr_left fun i hi => decodeOfEncodeIsIdentity i (h i hi)

/-- Settles O10: what the assembler gives is well formed, and so decodes back (O1). -/
theorem assembledLinesAreLegalWords : Obligations.AssembledLinesAreLegalWords := by
  intro l is h
  exact ⟨is.map encode, by rw [lineStimuli, h, Option.map_some], map_decode_encode (allWellFormed_of_assembleLine h)⟩

end Sys2Proof.Machine

/-! ## The stimuli a line of text gives -/

namespace Sys2Proof.Machine

/-! ### Cutting a line -/

theorem splitChars_of_none {p : Char → Bool} {w : List Char} (hw : ∀ c ∈ w, p c = false) : splitChars p w = [w] := by
  induction w with
  | nil => rfl
  | cons c w ih =>
    obtain ⟨hc, hw⟩ := List.forall_mem_cons.1 hw
    simp [splitChars, hc, ih hw]

theorem splitChars_append_cons {p : Char → Bool} {w l : List Char} {c : Char} (hw : ∀ c ∈ w, p c = false)
    (hc : p c = true) : splitChars p (w ++ c :: l) = w :: splitChars p l := by
  induction w with
  | nil => simp [splitChars, hc]
  | cons d w ih =>
    obtain ⟨hd, hw⟩ := List.forall_mem_cons.1 hw
    simp [splitChars, hd, ih hw]

theorem splitChars_ne_nil (p : Char → Bool) (l : List Char) : splitChars p l ≠ [] := by
  cases l with
  | nil => simp [splitChars]
  | cons c l =>
    rw [splitChars]
    split
    · simp
    · split <;> simp

theorem beq_false_of_not_mem {w : List Char} {c : Char} (hw : c ∉ w) : ∀ d ∈ w, (d == c) = false :=
  fun _ hd => beq_eq_false_iff_ne.2 (ne_of_mem_of_not_mem hd hw)

/-- A word of a line: it is not empty and holds no blank. -/
abbrev IsWord (w : List Char) : Prop := w ≠ [] ∧ ' ' ∉ w

theorem lineWords_word {w : List Char} (hw : IsWord w) : lineWords w = [w] := by
  rw [lineWords, splitChars_of_none (beq_false_of_not_mem hw.2)]
  simp [hw.1]

theorem lineWords_word_blank {w : List Char} (hw : IsWord w) (l : List Char) :
    lineWords (w ++ ' ' :: l) = w :: lineWords l := by
  rw [lineWords, splitChars_append_cons (beq_false_of_not_mem hw.2) (by decide)]
  simp [hw.1, lineWords]

theorem lineWords_blank (l : List Char) : lineWords (' ' :: l) = lineWords l := by
  simp [lineWords, splitChars]

theorem lineWords_dropWhile_blank (l : List Char) : lineWords (l.dropWhile (· == ' ')) = lineWords l := by
  induction l with
  | nil => rfl
  | cons c l ih =>
    by_cases hc : c = ' '
    · subst hc
      rw [List.dropWhile_cons_of_pos (by decide), ih, lineWords_blank]
    · rw [List.dropWhile_cons_of_neg (by simpa using hc)]

/-! ### Comments and agents -/

theorem withoutComment_of_none {l : List Char} (h : ';' ∉ l) : withoutComment l = l :=
  List.takeWhile_eq_self_iff.2 fun _ hc => bne_iff_ne.2 (ne_of_mem_of_not_mem hc h)

theorem withoutComment_append_of_none {xs : List Char} (h : ';' ∉ xs) (l : List Char) :
    withoutComment (xs ++ l) = xs ++ withoutComment l :=
  List.takeWhile_append_of_pos fun _ hc => bne_iff_ne.2 (ne_of_mem_of_not_mem hc h)

/-- R82: a comment changes nothing, whatever stands in it and whether or not the line has another. -/
theorem withoutComment_comment (l comment : List Char) : withoutComment (l ++ ';' :: comment) = withoutComment l := by
  induction l with
  | nil => rfl
  | cons c l ih =>
    by_cases hc : c = ';'
    · subst hc
      rfl
    · simp only [withoutComment] at ih ⊢
      rw [List.cons_append, List.takeWhile_cons_of_pos (by simpa using hc), ih,
        List.takeWhile_cons_of_pos (by simpa using hc)]

/-- No agent stands at the start of the line. -/
abbrev NoAgent (l : List Char) : Prop := (l.dropWhile (· == ' ')).head? ≠ some '['

theorem withoutAgent_of_noAgent {l : List Char} (h : NoAgent l) : withoutAgent l = some (l.dropWhile (· == ' ')) := by
  unfold withoutAgent
  split
  · next rest heq => simp [NoAgent, heq] at h
  · rfl

theorem withoutAgent_agent {agent : List Char} (h : ']' ∉ agent) (l : List Char) :
    withoutAgent ('[' :: agent ++ ']' :: l) = some l := by
  have hclose : (agent ++ ']' :: l).dropWhile (· != ']') = ']' :: l := by
    rw [List.dropWhile_append_of_pos fun _ hc => bne_iff_ne.2 (ne_of_mem_of_not_mem hc h)]
    exact List.dropWhile_cons_of_neg (by decide)
  rw [List.cons_append, withoutAgent, List.dropWhile_cons_of_neg (by decide)]
  simp only [hclose]

theorem noAgent_withoutComment {l : List Char} (h : NoAgent l) : NoAgent (withoutComment l) := by
  induction l with
  | nil => exact h
  | cons c l ih =>
    by_cases hblank : c = ' '
    · subst hblank
      exact ih h
    · have hc : c ≠ '[' := by simpa [NoAgent, hblank] using h
      by_cases hcomment : c = ';' <;> simp [NoAgent, withoutComment, hcomment, hblank, hc]

theorem assembleLine_of_noAgent {l : List Char} (h : NoAgent l) :
    assembleLine l = assembleWords (lineWords (withoutComment l)) := by
  rw [assembleLine, withoutAgent_of_noAgent (noAgent_withoutComment h), Option.bind_some, lineWords_dropWhile_blank]

/-- R82: an agent in brackets at the start changes nothing. -/
theorem assembleLine_agent {agent l : List Char} (hclose : ']' ∉ agent) (hcomment : ';' ∉ agent) (h : NoAgent l) :
    assembleLine (['['] ++ agent ++ [']'] ++ l) = assembleLine l := by
  have hbracket : ';' ∉ '[' :: agent ++ [']'] := by simp [hcomment]
  have hline : withoutComment ('[' :: agent ++ [']'] ++ l) = '[' :: agent ++ ']' :: withoutComment l := by
    rw [withoutComment_append_of_none hbracket, List.append_assoc, List.singleton_append]
  rw [assembleLine_of_noAgent h, assembleLine, List.singleton_append, hline, withoutAgent_agent hclose,
    Option.bind_some]

/-! ### Numbers -/

/-- The digits `f` writes are read back in the base `b`. -/
theorem digitsValue_map {b : Nat} {f : Fin b → Char} (hf : ∀ d, digitValue b (f d) = some d.val) {ds : List (Fin b)}
    (hds : ds ≠ []) : digitsValue b (ds.map f) = some (numberOfDigits ds) := by
  rw [digitsValue, if_neg (by simpa using hds), numberOfDigits]
  clear hds
  generalize 0 = n
  induction ds generalizing n with
  | nil => rfl
  | cons d ds ih => simpa [hf] using ih (b * n + d.val)

/-- The text `text` is a number of the value `n`, and none of it is a blank, a comma or the start of a comment. -/
structure IsNumber (text : List Char) (n : Nat) : Prop where
  word : IsWord text
  noComma : ',' ∉ text
  noComment : ';' ∉ text
  value : numberValue text = some n

theorem not_mem_map_digits {b : Nat} {f : Fin b → Char} {c : Char} (hf : ∀ d, f d ≠ c) (ds : List (Fin b)) :
    c ∉ ds.map f := by simpa using fun d _ => hf d

theorem isNumber_decimalText {ds : List (Fin 10)} (hds : ds ≠ []) : IsNumber (decimalText ds) (numberOfDigits ds) where
  word := ⟨by simpa [decimalText] using hds, not_mem_map_digits (by decide) ds⟩
  noComma := not_mem_map_digits (by decide) ds
  noComment := not_mem_map_digits (by decide) ds
  value := by
    have hx : 'x' ∉ decimalText ds := not_mem_map_digits (by decide) ds
    unfold numberValue
    split
    · next heq => simp [heq] at hx
    · exact digitsValue_map (b := 10) (by decide) hds

theorem isNumber_hexText {ds : List (Fin 16)} (hds : ds ≠ []) : IsNumber (hexText ds) (numberOfDigits ds) where
  word := ⟨by simp [hexText], List.not_mem_append (by decide) (not_mem_map_digits (by decide) ds)⟩
  noComma := List.not_mem_append (by decide) (not_mem_map_digits (by decide) ds)
  noComment := List.not_mem_append (by decide) (not_mem_map_digits (by decide) ds)
  value := digitsValue_map (b := 16) (by decide) hds

theorem IsNumber.argValue {text : List Char} {v : Arg} (h : IsNumber text v.toNat) : argValue text = some v :=
  argValue_eq_some.2 h.value

/-! ### A mnemonic with its argument -/

/-- A mnemonic: a word that starts no comment and no agent. -/
abbrev IsMnemonic (m : List Char) : Prop := IsWord m ∧ ';' ∉ m ∧ '[' ∉ m

theorem IsMnemonic.noAgent {m : List Char} (hm : IsMnemonic m) (l : List Char) : NoAgent (m ++ l) := by
  obtain ⟨⟨hne, hblank⟩, -, hagent⟩ := hm
  obtain ⟨c, m, rfl⟩ := List.exists_cons_of_ne_nil hne
  simp only [List.mem_cons, not_or] at hblank hagent
  simp [NoAgent, Ne.symm hblank.1, Ne.symm hagent.1]

theorem assembleLine_mnemonic {m l : List Char} (hm : IsMnemonic m) (hl : ';' ∉ l) :
    assembleLine (m ++ ' ' :: l) = assembleWords (m :: lineWords l) := by
  have hcomment : ';' ∉ m ++ ' ' :: l := by simp [hm.2.1, hl]
  rw [assembleLine_of_noAgent (hm.noAgent _), withoutComment_of_none hcomment, lineWords_word_blank hm.1]

theorem assembleLine_mnemonic_number {m text : List Char} {n : Nat} (hm : IsMnemonic m) (htext : IsNumber text n) :
    assembleLine (m ++ ' ' :: text) = assembleWords [m, text] := by
  rw [assembleLine_mnemonic hm htext.noComment, lineWords_word htext.word]

theorem assembleLine_throttle {text : List Char} {v : Arg} (h : IsNumber text v.toNat) :
    assembleLine ("THROTTLE ".toList ++ text) = some [.throttle v] := by
  calc assembleLine ("THROTTLE ".toList ++ text)
    _ = assembleWords ["THROTTLE".toList, text] := assembleLine_mnemonic_number (m := "THROTTLE".toList) (by decide) h
    _ = (argValue text).map (fun v => [.throttle v]) := rfl
    _ = some [.throttle v] := by rw [h.argValue, Option.map_some]

theorem assembleLine_command {text : List Char} {v : Arg} (h : IsNumber text v.toNat) :
    assembleLine ("COMMAND ".toList ++ text) = some [.command v] := by
  calc assembleLine ("COMMAND ".toList ++ text)
    _ = assembleWords ["COMMAND".toList, text] := assembleLine_mnemonic_number (m := "COMMAND".toList) (by decide) h
    _ = (argValue text).map (fun c => [.command c]) := rfl
    _ = some [.command v] := by rw [h.argValue, Option.map_some]

theorem assembleLine_tick {text : List Char} {v : Arg} (h : IsNumber text v.toNat) (hv : v ≠ 0#16) :
    assembleLine ("TICK ".toList ++ text) = some [.tick v] := by
  calc assembleLine ("TICK ".toList ++ text)
    _ = assembleWords ["TICK".toList, text] := assembleLine_mnemonic_number (m := "TICK".toList) (by decide) h
    _ = (argValue text).bind (fun k => if k = 0#16 then none else some [.tick k]) := rfl
    _ = some [.tick v] := by rw [h.argValue, Option.bind_some, if_neg hv]

theorem assembleLine_ticks {text : List Char} {n : Nat} (h : IsNumber text n) (hn : 1 ≤ n) :
    assembleLine ("TICKS ".toList ++ text) = some (ticks n) := by
  calc assembleLine ("TICKS ".toList ++ text)
    _ = assembleWords ["TICKS".toList, text] := assembleLine_mnemonic_number (m := "TICKS".toList) (by decide) h
    _ = (numberValue text).bind (fun n => if n = 0 then none else some (ticks n)) := rfl
    _ = some (ticks n) := by rw [h.value, Option.bind_some, if_neg (by omega)]

/-! ### The gaps of EDGES -/

theorem allSome_map_some {α : Type} (as : List α) : allSome (as.map some) = some as := by
  induction as with
  | nil => rfl
  | cons a as ih => rw [List.map_cons, allSome, ih, Option.map_some]

/-- The text of a list of gaps, a comma and a blank between each two (R83). -/
abbrev gapsText (texts : List (List Char)) : List Char := List.intercalate ", ".toList texts

theorem gapsText_cons {text : List Char} {texts : List (List Char)} (h : texts ≠ []) :
    gapsText (text :: texts) = text ++ ',' :: ' ' :: gapsText texts := by
  rw [gapsText, List.intercalate_cons_of_ne_nil h, List.append_assoc]
  rfl

theorem gapsText_singleton (text : List Char) : gapsText [text] = text := List.intercalate_singleton

theorem gapValue_word {w : List Char} (hw : IsWord w) : gapValue w = argValue w := by
  rw [gapValue, lineWords_word hw]

theorem gapValue_blank (piece : List Char) : gapValue (' ' :: piece) = gapValue piece := by
  rw [gapValue, lineWords_blank, gapValue]

/-- A blank after a comma belongs to the gap that follows it, and does not change it. -/
theorem map_gapValue_blank (l : List Char) :
    (splitChars (· == ',') (' ' :: l)).map gapValue = (splitChars (· == ',') l).map gapValue := by
  obtain ⟨w, ws, hsplit⟩ := List.exists_cons_of_ne_nil (splitChars_ne_nil (· == ',') l)
  simp [splitChars, hsplit, gapValue_blank]

theorem map_gapValue_gapsText {texts : List (List Char)} (hne : texts ≠ [])
    (h : ∀ text ∈ texts, IsWord text ∧ ',' ∉ text) :
    (splitChars (· == ',') (gapsText texts)).map gapValue = texts.map argValue := by
  induction texts with
  | nil => exact absurd rfl hne
  | cons text texts ih =>
    obtain ⟨⟨hword, hcomma⟩, htexts⟩ := List.forall_mem_cons.1 h
    by_cases hlast : texts = []
    · subst hlast
      rw [gapsText_singleton, splitChars_of_none (beq_false_of_not_mem hcomma), List.map_singleton, gapValue_word hword]
      rfl
    · rw [gapsText_cons hlast, splitChars_append_cons (beq_false_of_not_mem hcomma) (by decide), List.map_cons,
        gapValue_word hword, map_gapValue_blank, ih hlast htexts, List.map_cons]

/-- The words of the gaps, with blanks between them again, are the text of the gaps. -/
theorem intercalate_lineWords_gapsText {texts : List (List Char)} (hne : texts ≠ [])
    (h : ∀ text ∈ texts, IsWord text) :
    lineWords (gapsText texts) ≠ [] ∧ List.intercalate [' '] (lineWords (gapsText texts)) = gapsText texts := by
  induction texts with
  | nil => exact absurd rfl hne
  | cons text texts ih =>
    obtain ⟨hword, htexts⟩ := List.forall_mem_cons.1 h
    by_cases hlast : texts = []
    · subst hlast
      rw [gapsText_singleton, lineWords_word hword]
      exact ⟨List.cons_ne_nil _ _, List.intercalate_singleton⟩
    · obtain ⟨hwords, htext⟩ := ih hlast htexts
      have hpiece : IsWord (text ++ [',']) := ⟨by simp, by simp [hword.2]⟩
      rw [gapsText_cons hlast, List.append_cons, lineWords_word_blank hpiece,
        List.intercalate_cons_of_ne_nil hwords, htext]
      exact ⟨List.cons_ne_nil _ _, by simp⟩

theorem assembleWords_edges {ws : List (List Char)} (h : ws ≠ []) :
    assembleWords ("EDGES".toList :: ws) =
      (allSome ((splitChars (· == ',') (List.intercalate [' '] ws)).map gapValue)).map edgesAt := by
  obtain ⟨a, rest, rfl⟩ := List.exists_cons_of_ne_nil h
  rfl

theorem not_mem_gapsText {texts : List (List Char)} (h : ∀ text ∈ texts, ';' ∉ text) : ';' ∉ gapsText texts := by
  induction texts with
  | nil => simp
  | cons text texts ih =>
    obtain ⟨htext, htexts⟩ := List.forall_mem_cons.1 h
    by_cases hlast : texts = []
    · subst hlast
      rwa [gapsText_singleton]
    · rw [gapsText_cons hlast]
      simp [htext, ih htexts]

theorem assembleLine_edges {texts : List (List Char)} {ds : List Arg} (hne : texts ≠ [])
    (h : ∀ text ∈ texts, ∃ n, IsNumber text n) (hds : texts.map argValue = ds.map some) :
    assembleLine ("EDGES ".toList ++ gapsText texts) = some (edgesAt ds) := by
  have hcomment : ∀ text ∈ texts, ';' ∉ text := fun text ht => (h text ht).elim fun _ hnum => hnum.noComment
  have hpiece : ∀ text ∈ texts, IsWord text ∧ ',' ∉ text :=
    fun text ht => (h text ht).elim fun _ hnum => ⟨hnum.word, hnum.noComma⟩
  obtain ⟨hwords, htext⟩ := intercalate_lineWords_gapsText hne fun text ht => (hpiece text ht).1
  calc assembleLine ("EDGES ".toList ++ gapsText texts)
    _ = assembleWords ("EDGES".toList :: lineWords (gapsText texts)) :=
      assembleLine_mnemonic (m := "EDGES".toList) (by decide) (not_mem_gapsText hcomment)
    _ = (allSome (texts.map argValue)).map edgesAt := by
      rw [assembleWords_edges hwords, htext, map_gapValue_gapsText hne hpiece]
    _ = some (edgesAt ds) := by rw [hds, allSome_map_some, Option.map_some]

theorem argValue_decimalText {ds : List (Fin 10)} (hds : ds ≠ []) (hfit : numberOfDigits ds < 65536) :
    argValue (decimalText ds) = some (BitVec.ofNat 16 (numberOfDigits ds)) := by
  rw [argValue_eq_some, (isNumber_decimalText hds).value, BitVec.toNat_ofNat, Nat.mod_eq_of_lt hfit]

theorem gapThenEdge_ofNat {n : Nat} (hn : n < 65536) :
    gapThenEdge (BitVec.ofNat 16 n) = if n = 0 then [.edge] else [.tick (BitVec.ofNat 16 n), .edge] := by
  have hzero : BitVec.ofNat 16 n = 0#16 ↔ n = 0 := by
    rw [← BitVec.toNat_inj, BitVec.toNat_ofNat, Nat.mod_eq_of_lt hn, BitVec.toNat_ofNat, Nat.zero_mod]
  simp only [gapThenEdge, hzero]

/-- R83: `EDGES` with its gaps in decimal. -/
theorem assembleLine_edges_decimal {gaps : List (List (Fin 10))} (hne : gaps ≠ [])
    (h : ∀ ds ∈ gaps, ds ≠ [] ∧ numberOfDigits ds < 65536) :
    assembleLine ("EDGES ".toList ++ gapsText (gaps.map decimalText)) =
      some (.edge :: gaps.flatMap (fun ds =>
        if numberOfDigits ds = 0 then [.edge] else [.tick (BitVec.ofNat 16 (numberOfDigits ds)), .edge])) := by
  have hargs : (gaps.map decimalText).map argValue =
      (gaps.map fun ds => BitVec.ofNat 16 (numberOfDigits ds)).map some := by
    rw [List.map_map, List.map_map]
    exact List.map_congr_left fun ds hds => argValue_decimalText (h ds hds).1 (h ds hds).2
  have hnumbers : ∀ text ∈ gaps.map decimalText, ∃ n, IsNumber text n :=
    List.forall_mem_map.2 fun ds hds => ⟨_, isNumber_decimalText (h ds hds).1⟩
  rw [assembleLine_edges (by simpa using hne) hnumbers hargs, edgesAt, List.map_map, ← List.flatMap_def]
  congr 2
  exact List.flatMap_congr fun ds hds => gapThenEdge_ofNat (h ds hds).2

/-! ### The text of a stimulus program -/

/-- The two ways to write an argument (R82). -/
theorem isNumber_of_text {n : Nat} {text : List Char}
    (h : (∃ ds : List (Fin 10), ds ≠ [] ∧ text = decimalText ds ∧ numberOfDigits ds = n) ∨
      (∃ ds : List (Fin 16), ds ≠ [] ∧ text = hexText ds ∧ numberOfDigits ds = n)) : IsNumber text n := by
  obtain ⟨ds, hds, rfl, rfl⟩ | ⟨ds, hds, rfl, rfl⟩ := h
  · exact isNumber_decimalText hds
  · exact isNumber_hexText hds

theorem ne_nil_of_one_le_numberOfDigits {b : Nat} {ds : List (Fin b)} (h : 1 ≤ numberOfDigits ds) : ds ≠ [] := by
  rintro rfl
  simp [numberOfDigits] at h

/-- Settles O11: one clause for each form of a line. -/
theorem assemblerTextGivesItsStimuli : Obligations.AssemblerTextGivesItsStimuli := by
  refine ⟨by decide, fun v text htext => ?_, fun ds hds => ?_, fun gaps hne h => assembleLine_edges_decimal hne h,
    fun l comment => ?_, fun agent l hclose hcomment h => assembleLine_agent hclose hcomment h⟩
  · have hnum := isNumber_of_text htext
    exact ⟨assembleLine_throttle hnum, assembleLine_command hnum, assembleLine_tick hnum⟩
  · exact assembleLine_ticks (isNumber_decimalText (ne_nil_of_one_le_numberOfDigits hds)) hds
  · rw [assembleLine, withoutComment_comment, assembleLine]

end Sys2Proof.Machine

/-! ## The frame and its duty sequence -/

namespace Sys2Proof.Machine

/-! ### ENCODE -/

theorem toNat_append_eq_add {m n : Nat} (x : BitVec m) (y : BitVec n) :
    (x ++ y).toNat = x.toNat * 2 ^ n + y.toNat := by
  rw [BitVec.toNat_append, ← Nat.shiftLeft_add_eq_or_of_lt y.isLt, Nat.shiftLeft_eq]

/-- R84: the payload is the request clamped; its 11 bits hold every clamped value. -/
theorem clamp_toNat (v : Arg) : (clamp v).toNat = min v.toNat payloadMax :=
  BitVec.toNat_ofNat .. ▸ Nat.mod_eq_of_lt (Nat.lt_succ_of_le (Nat.min_le_right ..))

theorem telemBit_toNat (telem : Bool) : (telemBit telem).toNat = telem.toNat := BitVec.toNat_ofBool telem

/-- R85: the three nibbles of CSUM12 in natural numbers. -/
theorem csum12_toNat (u : BitVec 12) :
    (csum12 u).toNat = (u.toNat / 256 % 16) ^^^ (u.toNat / 16 % 16) ^^^ (u.toNat % 16) := by
  simp only [csum12, BitVec.toNat_xor, BitVec.extractLsb'_toNat, Nat.shiftRight_eq_div_pow]
  norm_num

/-- R63, R86: the upper 12 bits of an encoded frame are the payload and the flag. -/
theorem frameUpper_encodeFrame (v : Arg) (telem : Bool) :
    frameUpper (encodeFrame v telem) = clamp v ++ telemBit telem := BitVec.extractLsb'_append_eq_left

/-- R63, R86: the lowest 4 bits of an encoded frame are the checksum of the payload and the flag. -/
theorem frameCsum_encodeFrame (v : Arg) (telem : Bool) :
    frameCsum (encodeFrame v telem) = csum12 (clamp v ++ telemBit telem) := BitVec.extractLsb'_append_eq_right

/-- Settles O12: a frame is the sum of its fields at their weights, and the checksum is taken of the upper two. -/
theorem frameArithmetic : Obligations.FrameArithmetic := by
  intro v telem p u
  have hclamp : (clamp v).toNat = p := clamp_toNat v
  have hupper : (clamp v ++ telemBit telem).toNat = u := by
    rw [toNat_append_eq_add, hclamp, telemBit_toNat, pow_one]
  refine ⟨hclamp, ?_⟩
  calc (encodeFrame v telem).toNat
    _ = u * 2 ^ 4 + (csum12 (clamp v ++ telemBit telem)).toNat := by rw [encodeFrame, toNat_append_eq_add, hupper]
    _ = u * 2 ^ 4 + ((u / 256 % 16) ^^^ (u / 16 % 16) ^^^ (u % 16)) := by rw [csum12_toNat, hupper]
    _ = p * 32 + telem.toNat * 16 + ((u / 256 % 16) ^^^ (u / 16 % 16) ^^^ (u % 16)) := by omega

/-- Settles O13: both sides are the checksum of the payload and the flag. -/
theorem frameChecksumRoundTrips : Obligations.FrameChecksumRoundTrips := fun v telem =>
  calc
    csum12 (frameUpper (encodeFrame v telem))
    _ = csum12 (clamp v ++ telemBit telem) := by rw [frameUpper_encodeFrame]
    _ = frameCsum (encodeFrame v telem) := (frameCsum_encodeFrame v telem).symm

/-! ### The compare values -/

/-- R87: a bit's compare value is its pulse width, complemented in inverted mode. R90 keeps the complement from
wrapping. -/
theorem bitVal_toNat {c : Config} (hc : c.WF) (b : Bool) :
    (bitVal c b).toNat =
      if c.inverted then c.dutyFull.toNat - (if b then c.dutyOne.toNat else c.dutyZero.toNat)
      else (if b then c.dutyOne.toNat else c.dutyZero.toNat) := by
  obtain ⟨-, -, -, -, -, -, -, -, ⟨-, hzero, hone⟩, -⟩ := hc
  have hsubOne : (c.dutyFull - c.dutyOne).toNat = c.dutyFull.toNat - c.dutyOne.toNat := BitVec.toNat_sub_of_le hone
  have hsubZero : (c.dutyFull - c.dutyZero).toNat = c.dutyFull.toNat - c.dutyZero.toNat :=
    BitVec.toNat_sub_of_le (hzero.le.trans hone)
  cases b <;> cases hinv : c.inverted <;> simp [bitVal, oneVal, zeroVal, hinv, hsubOne, hsubZero]

theorem idleVal_toNat (c : Config) : (idleVal c).toNat = if c.inverted then c.dutyFull.toNat else 0 := by
  unfold idleVal; split <;> rfl

/-- R90: the two pulse widths differ, so a compare value determines its bit. -/
theorem bitVal_injective {c : Config} (hc : c.WF) : Function.Injective (bitVal c) := by
  refine Bool.injective_iff.2 fun h => ?_
  have hNat := congrArg BitVec.toNat h
  rw [bitVal_toNat hc, bitVal_toNat hc] at hNat
  obtain ⟨-, -, -, -, -, -, -, -, ⟨-, hzero, hone⟩, -⟩ := hc
  simp only [Bool.false_eq_true, if_false, if_true] at hNat
  split at hNat <;> omega

/-! ### DUTYMAP -/

/-- R88: entry `i` of the duty sequence is the compare value of frame bit `15 - i`. -/
theorem dutyMap_getElem?_bit (c : Config) (f : Frame) {i : Nat} (hi : i < 16) :
    (dutyMap c f)[i]? = some (bitVal c (f.getLsbD (15 - i))) := by
  rw [dutyMap, List.getElem?_append_left (by simpa using hi)]
  simp [hi]

theorem dutyMap_getElem?_idle (c : Config) (f : Frame) : (dutyMap c f)[16]? = some (idleVal c) := by
  rw [dutyMap, List.getElem?_append_right (by simp)]
  simp

/-- R91: equal entries come from equal bits, so equal duty sequences come from equal frames. -/
theorem dutyMap_injective {c : Config} (hc : c.WF) : Function.Injective (dutyMap c) := by
  intro f g hfg
  refine BitVec.eq_of_getLsbD_eq fun j hj => ?_
  have hentry : (dutyMap c f)[15 - j]? = (dutyMap c g)[15 - j]? := congrArg (·[15 - j]?) hfg
  rw [dutyMap_getElem?_bit c f (by omega), dutyMap_getElem?_bit c g (by omega), Nat.sub_sub_self (by omega)] at hentry
  exact bitVal_injective hc (Option.some.inj hentry)

/-- Settles O14: each entry is a compare value, whose number is known. -/
theorem dutySequenceEntries : Obligations.DutySequenceEntries := fun c f =>
  ⟨dutyMap_length c.val f,
    fun _ hi => ⟨_, dutyMap_getElem?_bit c.val f hi, bitVal_toNat c.property _⟩,
    ⟨_, dutyMap_getElem?_idle c.val f, idleVal_toNat c.val⟩⟩

/-- Settles O15: `ONE_VAL` is the compare value of a 1 bit and of no other. -/
theorem frameReadBackFromDuty : Obligations.FrameReadBackFromDuty := by
  refine fun c f => ⟨fun i hi => ?_, fun g hfg => dutyMap_injective c.property hfg⟩
  have hone : bitVal c.val true = oneVal c.val := rfl
  rw [dutyMap_getElem?_bit c.val f hi, Option.some.injEq, ← hone, (bitVal_injective c.property).eq_iff]

end Sys2Proof.Machine

/-! ## The line in transmission and in capture -/

namespace Sys2Proof.Machine

/-! ### What the gates and the events answer on a configured block -/

theorem State.ifEnabled_of_enabled {s : State} {k : Host.Outcome State Fault Refusal} (hconf : s.r.configured = true) :
    s.ifEnabled true k = k := by
  simp [State.ifEnabled, hconf]

/-- R151: past the gate, an enabled event is never the refusal that a disabled one is. -/
theorem State.ifEnabled_notEnabled_iff {s : State} {e : Bool} {k : Host.Outcome State Fault Refusal}
    (hconf : s.r.configured = true) (hk : k ≠ .refused .notEnabled) :
    e = false ↔ s.ifEnabled e k = .refused .notEnabled := by
  cases e with
  | false => simp [State.ifEnabled, hconf]
  | true => simp [State.ifEnabled, hconf, hk]

theorem exec_capfull_of_pending {s : State} (hconf : s.r.configured = true) (hpending : s.r.capFullPending = true) :
    exec .capfull s =
      .next (s.answer (s.r.clearCapFull.handleEvent stReceiving Engine.enterDecoding) .nothing) := by
  simp [exec, execCapfull, Engine.capFullEnabled, hpending, State.ifEnabled_of_enabled hconf]

/-- Settles O40: each of the three stimuli is behind the gate of its own flag, and past the gate it is not refused. -/
theorem stepWithoutEventIsNotEnabled : Obligations.StepWithoutEventIsNotEnabled := by
  intro s hconf
  exact ⟨State.ifEnabled_notEnabled_iff hconf State.conclude_not_refused,
    State.ifEnabled_notEnabled_iff hconf (by simp), State.ifEnabled_notEnabled_iff hconf (by simp)⟩

/-! ### The slots of one transmission -/

/-- Settles O35: the entry is in the sequence, so the slot completes; index 16 is the same as a number and as a word. -/
theorem txslotAppliesNextEntry : Obligations.TxslotAppliesNextEntry := by
  intro s d hconf hactive hentry
  have hslot := Engine.txSlot_ok.2 ⟨d, hentry, rfl⟩
  rw [exec_txslot_of_active hconf hactive, State.conclude_next.2 ⟨_, hslot, rfl⟩]
  have hlast : s.r.txIndex.toNat = 16 ↔ s.r.txIndex = 16#5 := by bv_omega
  by_cases h : s.r.txIndex = 16#5 <;> simp [State.answer, hlast, h, hactive]

/-- The block state `r'` is where `k` slots, of the 17 a frame takes, have led from the started driver of `r`. -/
structure Engine.AfterSlots (r : Engine) (k : Nat) (r' : Engine) : Prop where
  configured : r'.configured = true
  state : r'.state = r.state
  duty : r'.duty = r.duty
  index : r'.txIndex.toNat = k
  active : r'.txActive = decide (k < 17)
  done : r'.txDonePending = decide (k = 17)

/-- R95: while entries are left the next slot completes, and it applies the next of them. -/
theorem Engine.AfterSlots.exec_txslot {r : Engine} {s : State} {k : Nat} (h : r.AfterSlots k s.r) (hk : k < 17)
    (hlen : r.duty.length = 17) :
    ∃ t, exec .txslot s = .next t ∧ r.AfterSlots (k + 1) t.r ∧ some t.r.cmpOut = r.duty[k]? := by
  obtain ⟨hconf, hstate, hduty, hindex, hactive, hdone⟩ := h
  have hentry : r.duty[k]? = some r.duty[k] := List.getElem?_eq_getElem (hlen ▸ hk)
  have hexec := txslotAppliesNextEntry s r.duty[k] hconf (by simpa [hk] using hactive) (by rw [hduty, hindex, hentry])
  have hlast : s.r.txIndex = 16#5 ↔ k = 16 := by bv_omega
  have hnext : (s.r.txIndex + 1#5).toNat = k + 1 := by bv_omega
  refine ⟨_, hexec, ⟨hconf, hstate, hduty, hnext, ?_, ?_⟩, hentry.symm⟩
  · simp only [ne_eq, hlast, decide_eq_decide]
    omega
  · simp [hlast, hdone, show k ≠ 17 by omega]

/-- A further stimulus runs on the state that the ones before it have led to. -/
theorem execTimes_succ_of_next {i : Instr} {n : Nat} {s t : State} (h : execTimes i n s = .next t) :
    execTimes i (n + 1) s = exec i t := by
  induction n generalizing s with
  | zero =>
    obtain rfl : s = t := by simpa [execTimes] using h
    cases hexec : exec i s <;> simp [execTimes, hexec]
  | succ n ih =>
    cases hexec : exec i s with
    | next u => simpa only [execTimes, hexec] using ih (by simpa only [execTimes, hexec] using h)
    | fault f => simp [execTimes, hexec] at h
    | refused why => simp [execTimes, hexec] at h

/-- R94, R95: up to 17 slots follow the start of the driver. -/
theorem Engine.AfterSlots.exists_execTimes {s : State} (hstart : s.r.AfterSlots 0 s.r) (hlen : s.r.duty.length = 17)
    {k : Nat} (hk : k ≤ 17) : ∃ t, execTimes .txslot k s = .next t ∧ s.r.AfterSlots k t.r := by
  induction k with
  | zero => exact ⟨s, rfl, hstart⟩
  | succ k ih =>
    obtain ⟨t, hrun, ht⟩ := ih (by omega)
    obtain ⟨u, hexec, hu, -⟩ := ht.exec_txslot hk hlen
    exact ⟨u, (execTimes_succ_of_next hrun).trans hexec, hu⟩

/-- Settles O36, by induction on the slots taken: 17 complete one after the other, and the last of them closes the gate
of an 18th. -/
theorem frameTakesSeventeenSlots : Obligations.FrameTakesSeventeenSlots := by
  intro s hconf hactive hindex hdone hlen
  have hstart : s.r.AfterSlots 0 s.r := ⟨hconf, rfl, rfl, by simp [hindex], by simp [hactive], by simp [hdone]⟩
  constructor
  · intro k hk
    obtain ⟨t, hrun, ht⟩ := hstart.exists_execTimes hlen hk.le
    obtain ⟨u, hexec, hu, hcmp⟩ := ht.exec_txslot hk hlen
    exact ⟨u, (execTimes_succ_of_next hrun).trans hexec, hcmp, hu.index, hu.state, hu.duty,
      by rw [hu.active, decide_eq_decide]; omega, by simp [hu.done]⟩
  · obtain ⟨t, hrun, ht⟩ := hstart.exists_execTimes hlen le_rfl
    exact (execTimes_succ_of_next hrun).trans ((stepWithoutEventIsNotEnabled t ht.configured).1.1 ht.active)

/-! ### What leaves the driver running -/

theorem Engine.issue_keeps_txActive {c : Config} {v : Arg} {b : Bool} {r : Engine} (h : r.txActive = true) :
    (r.issue c v b).txActive = true := by
  unfold Engine.issue
  split
  · rfl
  · exact h

theorem Engine.edge_txActive {c : Config} {r r' : Engine} (h : r.edge c = .ok r') : r'.txActive = r.txActive := by
  obtain ⟨-, hcapture⟩ | ⟨-, rfl⟩ := Engine.edge_ok.1 h
  · obtain ⟨-, -, rfl⟩ := Engine.captureEdge_ok.1 hcapture
    rfl
  · rfl

theorem Engine.advance_txActive {c : Config} {r r' : Engine} (h : r.advance c = .ok r') :
    r'.txActive = r.txActive := by
  obtain ⟨-, rfl⟩ | ⟨-, h⟩ | ⟨-, rfl⟩ | ⟨-, h⟩ := Engine.advance_ok.1 h
  · rfl
  · obtain ⟨-, -, rfl⟩ | ⟨-, rfl⟩ := Engine.advanceAwaiting_ok.1 h <;> rfl
  · rw [Engine.advanceReceiving_eq]
    split <;> rfl
  · obtain ⟨-, ⟨p, -, rfl⟩ | ⟨e, -, rfl⟩⟩ := Engine.advanceDecoding_ok.1 h <;> rfl

theorem Engine.handleEvent_txActive {o : StateCode} {f : Engine → Engine} (hf : ∀ r, (f r).txActive = r.txActive)
    (r : Engine) : (r.handleEvent o f).txActive = r.txActive := by
  unfold Engine.handleEvent
  split
  · exact hf r
  · rfl

/-- R95: a slot stops a running driver at entry 16 and at no other. -/
theorem Engine.txSlot_keeps_txActive {r r' : Engine} (h : r.txSlot = .ok r') (hindex : r.txIndex ≠ 16#5) :
    r'.txActive = r.txActive := by
  obtain ⟨d, -, rfl⟩ := Engine.txSlot_ok.1 h
  exact if_neg (by bv_omega)

/-- R97: a step of a configured block that is not the slot of the last entry leaves a running driver running. -/
theorem Engine.Moves.keeps_txActive {c : Config} {r r' : Engine} {i : Instr} (h : r.Moves c i r')
    (hconf : r.configured = true) (hactive : r.txActive = true) :
    r'.txActive = true ∨ (i = .txslot ∧ r.txIndex = 16#5) := by
  cases h with
  | initFails | query | pollnew | tick => exact .inl hactive
  | initSucceeds hunconf => simp [hconf] at hunconf
  | send v b => exact .inl (Engine.issue_keeps_txActive hactive)
  | advance _ hr => exact .inl ((Engine.advance_txActive hr).trans hactive)
  | txslot _ _ hr =>
    by_cases hlast : r.txIndex = 16#5
    · exact .inr ⟨rfl, hlast⟩
    · exact .inl ((Engine.txSlot_keeps_txActive hr hlast).trans hactive)
  | txdone => exact .inl ((Engine.handleEvent_txActive Engine.enterAwaiting_txActive _).trans hactive)
  | capfull => exact .inl ((Engine.handleEvent_txActive Engine.enterDecoding_txActive _).trans hactive)
  | edge hr => exact .inl ((Engine.edge_txActive hr).trans hactive)

/-- Settles O37: the driver runs on after every stimulus but one. -/
theorem onlyLastSlotStopsTransmission : Obligations.OnlyLastSlotStopsTransmission := by
  intro s t i hconf hactive h hstopped
  obtain hrunning | hlast := (exec_moves h).keeps_txActive hconf hactive
  · simp [hstopped] at hrunning
  · exact hlast

/-! ### The capture: opened, closed to an edge, ended -/

/-- Settles O47: the ticks elapsed since the mark are the difference modulo `2 ^ W`, and the line is free to turn. -/
theorem advanceArmsCaptureAfterDelay : Obligations.AdvanceArmsCaptureAfterDelay := by
  intro s hconf hst htx htick hmark
  have helapsed : s.r.elapsed s.cfg.val =
      (s.r.tick + 2 ^ s.cfg.val.tickWidth - s.r.tMark) % 2 ^ s.cfg.val.tickWidth := tickDelta_eq_mod hmark htick
  have hadvance {r' : Engine} (h : s.r.advanceAwaiting s.cfg.val = .ok r') :
      exec .advance s = .next (s.answer r' .nothing) := by
    rw [exec_advance_of_configured hconf]
    exact State.conclude_next.2 ⟨r', Engine.advance_ok.2 (.inr (.inl ⟨hst, h⟩)), rfl⟩
  rw [← helapsed]
  split
  · next hdelay => exact hadvance (Engine.advanceAwaiting_ok.2 (.inl ⟨hdelay, htx, rfl⟩))
  · next hdelay => exact hadvance (Engine.advanceAwaiting_ok.2 (.inr ⟨hdelay, rfl⟩))

/-- Settles O43: each of the four causes closes the capture, and an edge outside it is lost. -/
theorem edgeOutsideCaptureIsLost : Obligations.EdgeOutsideCaptureIsLost := by
  intro s hcause
  have hclosed : s.r.captureOpen = false := by
    rw [← Bool.not_eq_true, Engine.captureOpen_iff]
    rintro ⟨hconf, hlink, harmed, hroom⟩
    simp [hconf, hlink, harmed, hroom] at hcause
  rw [exec_edge]
  exact State.conclude_next.2 ⟨s.r, Engine.edge_ok.2 (.inr ⟨hclosed, rfl⟩), rfl⟩

/-- R106: the target edge count is never above the capacity (R10), so a full buffer has reached it. -/
theorem Engine.edgeTarget_le_edges_of_full {c : Config} (hc : c.WF) {r : Engine} (hfull : r.capRemaining = 0#6) :
    c.edgeTarget ≤ r.edges c := by
  obtain ⟨-, -, -, -, ⟨-, htarget⟩, -⟩ := hc
  simpa [Engine.edges, hfull] using htarget

/-- R138: ADVANCE on a full buffer ends the capture. -/
theorem Engine.advance_of_full {c : Config} (hc : c.WF) {r : Engine} (hst : r.state = stReceiving)
    (hfull : r.capRemaining = 0#6) : r.advance c = .ok r.enterDecoding := by
  refine Engine.advance_ok.2 (.inr (.inr (.inl ⟨hst, ?_⟩)))
  rw [Engine.advanceReceiving_eq, if_pos (.inl (Engine.edgeTarget_le_edges_of_full hc hfull))]
  rfl

/-- Settles O41: a raised buffer-full event means a full buffer, on which ADVANCE makes the transition that CAPFULL
makes; the stale CAPFULL only clears its event. -/
theorem captureEndIsOrderIndependent : Obligations.CaptureEndIsOrderIndependent := by
  intro s hinv hconf hst hpending
  obtain ⟨-, hsound⟩ := hinv
  obtain ⟨-, -, -, -, ⟨-, hfull, -⟩, -⟩ := hsound hconf
  have hadvance := Engine.advance_of_full s.cfg.2 hst (hfull hpending)
  refine ⟨s.answer s.r.enterDecoding .nothing, _, _, ?_, rfl, exec_capfull_of_pending hconf hpending,
    exec_capfull_of_pending hconf hpending, ?_⟩
  · rw [exec_advance_of_configured hconf]
    exact State.conclude_next.2 ⟨_, hadvance, rfl⟩
  · have hstale : s.r.enterDecoding.clearCapFull.state ≠ stReceiving := by simp
    have howner : s.r.clearCapFull.state = stReceiving := hst
    simp only [State.answer_r, Engine.handleEvent_stale hstale, Engine.handleEvent_owner howner]
    rfl

end Sys2Proof.Machine

/-! ## What the telemetry decoder recovers -/

namespace Sys2Proof.Machine

/-! ### DELTA -/

/-- R111: DELTA is the difference modulo `2 ^ W`. -/
theorem tickDelta_eq_emod {w a b : Nat} (ha : a < 2 ^ w) (hb : b < 2 ^ w) :
    (tickDelta w a b : Int) = ((b : Int) - a) % 2 ^ w := by
  rw [tickDelta_eq_mod ha hb, Int.natCast_mod, Nat.cast_sub (by omega), Nat.cast_add, Nat.cast_pow, Nat.cast_two,
    add_sub_right_comm, Int.add_emod_right]

/-- Settles O16: a modular difference is below the modulus. -/
theorem deltaIsModularDifference : Obligations.DeltaIsModularDifference := fun w _ _ ha hb =>
  ⟨tickDelta_eq_emod ha hb, tickDelta_eq_mod ha hb ▸ Nat.mod_lt _ (Nat.two_pow_pos w)⟩

/-- R123: moving both timestamps by the same amount modulo `2 ^ W` keeps their difference. -/
theorem tickDelta_tickAdd {w a b : Nat} (shift : Nat) (ha : a < 2 ^ w) (hb : b < 2 ^ w) :
    tickDelta w (tickAdd w a shift) (tickAdd w b shift) = tickDelta w a b := by
  rw [← Int.natCast_inj]
  calc (tickDelta w (tickAdd w a shift) (tickAdd w b shift) : Int)
    _ = ((b + shift : Int) % 2 ^ w - (a + shift : Int) % 2 ^ w) % 2 ^ w := by
      rw [tickDelta_eq_emod (tickAdd_lt ..) (tickAdd_lt ..)]
      simp [tickAdd]
    _ = (b - a : Int) % 2 ^ w := by rw [← Int.sub_emod, add_sub_add_right_eq_sub]
    _ = tickDelta w a b := (tickDelta_eq_emod ha hb).symm

/-! ### ROUND -/

/-- R112: a rounded run up to the cap is the answer, and a run is never shorter than 1. -/
theorem roundRun_of_le {c : Config} {d k : Nat} (hk : max 1 ((d + c.rxBitTicks / 2) / c.rxBitTicks) = k)
    (hmax : k ≤ c.maxRun) : roundRun c d = .ok k := by
  simp only [roundRun, hk, if_pos hmax]

/-- R112, R122: the deltas that are nearest to `k` periods, halves up, give a run of `k`. -/
theorem roundRun_nearest {c : Config} {d k : Nat} (hk : 1 ≤ k) (hmax : k ≤ c.maxRun)
    (hlo : k * c.rxBitTicks ≤ d + c.rxBitTicks / 2) (hhi : d + c.rxBitTicks / 2 < (k + 1) * c.rxBitTicks) :
    roundRun c d = .ok k :=
  roundRun_of_le (by rw [Nat.div_eq_of_lt_le hlo hhi, Nat.max_eq_right hk]) hmax

/-- R112: above the cap the mode of the configuration answers. -/
theorem roundRun_above_cap {c : Config} {d : Nat} (hP : 0 < c.rxBitTicks)
    (h : (c.maxRun + 1) * c.rxBitTicks ≤ d + c.rxBitTicks / 2) :
    (c.runCapMode = .clamp → roundRun c d = .ok c.maxRun) ∧
    (c.runCapMode = .reject → roundRun c d = .error .gapTooLong) := by
  have habove : ¬ max 1 ((d + c.rxBitTicks / 2) / c.rxBitTicks) ≤ c.maxRun :=
    Nat.not_le.2 (Nat.lt_of_lt_of_le ((Nat.le_div_iff_mul_le hP).2 h) (Nat.le_max_right ..))
  constructor <;> intro hmode <;> simp only [roundRun, if_neg habove, hmode]

/-- Settles O17: the interval is that of the deltas nearest to `k` periods, written without the half period added. -/
theorem jitterWithinHalfPeriodIsRounded : Obligations.JitterWithinHalfPeriodIsRounded := by
  intro c d k hk hmax hlo hhi
  obtain ⟨-, hP, -⟩ := c.2
  refine roundRun_nearest hk hmax (Nat.sub_le_iff_le_add.1 hlo) ?_
  rw [Nat.add_one_mul]
  omega

/-- Settles O18: below half a period the nearest multiple is 0, which the lower limit makes 1. -/
theorem runLengthLimits : Obligations.RunLengthLimits := by
  intro c d
  obtain ⟨-, hP, hmax, -⟩ := c.2
  refine ⟨fun hd => roundRun_of_le ?_ hmax, fun h => (roundRun_above_cap (by omega) h).1,
    fun h => (roundRun_above_cap (by omega) h).2⟩
  rw [Nat.div_eq_of_lt (by omega), Nat.max_eq_left (Nat.zero_le 1)]

/-! ### RUNS -/

/-- The bits recovered when a run of `k` bits of `level` ends: the run is cut at 21 bits (R114). -/
def appendRun (bits : List Bool) (k : Nat) (level : Bool) : List Bool :=
  bits ++ List.replicate (min k (telemBits - bits.length)) level

theorem length_appendRun_le {bits : List Bool} (h : bits.length ≤ 21) (k : Nat) (level : Bool) :
    (appendRun bits k level).length ≤ 21 := by
  rw [appendRun, List.length_append, List.length_replicate, telemBits_eq]
  omega

/-- R114: one pass of the loop, given the run its timestamp ends. -/
theorem runsFrom_cons_of_round {c : Config} {bits : List Bool} {level : Bool} {prev next k : Nat} {rest : List Nat}
    (hround : roundRun c (tickDelta c.tickWidth prev next) = .ok k) :
    runsFrom c bits level prev (next :: rest) =
      if (appendRun bits k level).length = 21 then .ok (appendRun bits k level)
      else runsFrom c (appendRun bits k level) (!level) next rest := by
  simp only [runsFrom, hround]
  rfl

/-- R112, R114: a run above the cap in Reject mode ends the loop. -/
theorem runsFrom_cons_of_error {c : Config} {bits : List Bool} {level : Bool} {prev next : Nat} {rest : List Nat}
    {e : DecodeFail} (hround : roundRun c (tickDelta c.tickWidth prev next) = .error e) :
    runsFrom c bits level prev (next :: rest) = .error e := by
  simp only [runsFrom, hround]

/-- R114: a timestamp is passed only when it ends a run; the loop then stops at 21 bits or goes on. -/
theorem runsFrom_cons_eq_ok {c : Config} {bits out : List Bool} {level : Bool} {prev next : Nat} {rest : List Nat} :
    runsFrom c bits level prev (next :: rest) = .ok out ↔
      ∃ k, roundRun c (tickDelta c.tickWidth prev next) = .ok k ∧
        ((appendRun bits k level).length = 21 ∧ appendRun bits k level = out ∨
          (appendRun bits k level).length ≠ 21 ∧ runsFrom c (appendRun bits k level) (!level) next rest = .ok out) := by
  cases hround : roundRun c (tickDelta c.tickWidth prev next) with
  | error e => simp [runsFrom_cons_of_error hround]
  | ok k => rw [runsFrom_cons_of_round hround]; split <;> simp [*]

theorem runsFrom_length_le {c : Config} {bits out : List Bool} {level : Bool} {prev : Nat} {rest : List Nat}
    (hlen : bits.length ≤ 21) (h : runsFrom c bits level prev rest = .ok out) : out.length ≤ 21 := by
  induction rest generalizing bits level prev with
  | nil => exact Except.ok.inj h ▸ hlen
  | cons next rest ih =>
    obtain ⟨k, -, ⟨hfull, rfl⟩ | ⟨-, hrest⟩⟩ := runsFrom_cons_eq_ok.1 h
    · exact hfull.le
    · exact ih (length_appendRun_le hlen k level) hrest

/-- R114: once 21 bits stand, a later timestamp is not examined. -/
theorem runsFrom_append {c : Config} {bits out : List Bool} {level : Bool} {prev : Nat} {rest : List Nat}
    (hlen : bits.length < 21) (h : runsFrom c bits level prev rest = .ok out) (hout : out.length = 21)
    (later : List Nat) : runsFrom c bits level prev (rest ++ later) = .ok out := by
  induction rest generalizing bits level prev with
  | nil => exact absurd (Except.ok.inj h ▸ hout) hlen.ne
  | cons next rest ih =>
    obtain ⟨k, hround, hstop | ⟨hmore, hrest⟩⟩ := runsFrom_cons_eq_ok.1 h
    · exact runsFrom_cons_eq_ok.2 ⟨k, hround, .inl hstop⟩
    · have hlt := lt_of_le_of_ne (length_appendRun_le hlen.le k level) hmore
      exact runsFrom_cons_eq_ok.2 ⟨k, hround, .inr ⟨hmore, ih hlt hrest⟩⟩

theorem runs_of_take_eq_cons {c : Config} {buf : List Nat} {n first : Nat} {rest : List Nat}
    (h : buf.take n = first :: rest) : runs c buf n = runsFrom c [] c.initialLevel first rest := by
  rw [runs, h]

theorem runs_of_take_eq_nil {c : Config} {buf : List Nat} {n : Nat} (h : buf.take n = []) : runs c buf n = .ok [] := by
  rw [runs, h]

/-- Settles O19: by the two inductions over the timestamps, from no bits. -/
theorem bitstreamStopsAtTwentyOneBits : Obligations.BitstreamStopsAtTwentyOneBits := by
  intro c buf n bits h
  cases hbuf : buf.take n with
  | nil =>
    rw [runs_of_take_eq_nil hbuf] at h
    cases h
    simp
  | cons first rest =>
    rw [runs_of_take_eq_cons hbuf] at h
    refine ⟨runsFrom_length_le (by simp) h, fun hfull later => ?_⟩
    have htake : (first :: rest ++ later).take (n + later.length) = first :: (rest ++ later) :=
      List.take_of_length_le (by
        rw [List.length_append, ← hbuf]
        exact Nat.add_le_add_right (List.length_take_le n buf) _)
    rw [runs_of_take_eq_cons htake]
    exact runsFrom_append (by simp) h hfull later

/-- R123: the loop reads the timestamps through DELTA only. -/
theorem runsFrom_map_tickAdd {c : Config} (shift : Nat) {bits : List Bool} {level : Bool} {prev : Nat}
    {rest : List Nat} (h : ∀ t ∈ prev :: rest, t < 2 ^ c.tickWidth) :
    runsFrom c bits level (tickAdd c.tickWidth prev shift) (rest.map (tickAdd c.tickWidth · shift)) =
      runsFrom c bits level prev rest := by
  induction rest generalizing bits level prev with
  | nil => rfl
  | cons next rest ih =>
    obtain ⟨hprev, hrest⟩ := List.forall_mem_cons.1 h
    have hdelta := tickDelta_tickAdd shift hprev (hrest next List.mem_cons_self)
    rw [List.map_cons]
    cases hround : roundRun c (tickDelta c.tickWidth prev next) with
    | error e => rw [runsFrom_cons_of_error (hdelta ▸ hround), runsFrom_cons_of_error hround]
    | ok k => rw [runsFrom_cons_of_round (hdelta ▸ hround), runsFrom_cons_of_round hround, ih hrest]

theorem runs_map_tickAdd {c : Config} (shift : Nat) {buf : List Nat} (n : Nat) (h : ∀ t ∈ buf, t < 2 ^ c.tickWidth) :
    runs c (buf.map (tickAdd c.tickWidth · shift)) n = runs c buf n := by
  cases hbuf : buf.take n with
  | nil => rw [runs_of_take_eq_nil hbuf, runs_of_take_eq_nil (by rw [← List.map_take, hbuf, List.map_nil])]
  | cons first rest =>
    rw [runs_of_take_eq_cons hbuf, runs_of_take_eq_cons (by rw [← List.map_take, hbuf, List.map_cons])]
    exact runsFrom_map_tickAdd shift fun t ht => h t (List.mem_of_mem_take (hbuf ▸ ht))

/-- Settles O23: a decode reads the timestamps through RUNS only. -/
theorem decodeIsWraparoundInvariant : Obligations.DecodeIsWraparoundInvariant := fun c shift =>
  ⟨fun _ _ ha hb => tickDelta_tickAdd shift ha hb, fun buf n h => by
    have hruns : runs c (buf.map fun t => (t + shift) % 2 ^ c.tickWidth) n = runs c buf n := runs_map_tickAdd shift n h
    rw [decodeTelemetry, hruns, decodeTelemetry]⟩

/-! ### ASSEMBLE -/

theorem shiftIn_concat (g : Nat) (bits : List Bool) (b : Bool) :
    shiftIn g (bits ++ [b]) = Nat.bit b (shiftIn g bits) := by
  rw [shiftIn_append, Nat.bit_val]
  rfl

/-- R69, R116: the last bit received is bit 0 of the value, the one before it bit 1, and so on. -/
theorem testBit_shiftIn (g : Nat) (bits : List Bool) {j : Nat} (hj : j < bits.length) :
    some ((shiftIn g bits).testBit j) = bits.reverse[j]? := by
  induction bits using List.reverseRecOn generalizing j with
  | nil => simp at hj
  | append_singleton bits b ih =>
    rw [shiftIn_concat, List.reverse_concat]
    cases j with
    | zero => rw [Nat.testBit_bit_zero]; rfl
    | succ j =>
      rw [Nat.testBit_bit_succ, List.getElem?_cons_succ]
      exact ih (by simpa using hj)

/-- Settles O21: the word is the value of the first 20 bits, whose bit `19 - i` is the `i`-th received. -/
theorem assembledWordHoldsReceivedBits : Obligations.AssembledWordHoldsReceivedBits := by
  intro bits hlen i hi
  have htake : (bits.take 20).length = 20 := List.length_take_of_le hlen
  rw [assemble_eq, BitVec.getLsbD_ofNat, decide_eq_true (by omega), Bool.true_and, testBit_shiftIn _ _ (by omega),
    List.getElem?_reverse (by omega), htake, List.getElem?_take_of_lt (by omega)]
  congr 1
  omega

/-! ### SYMBOLS, VALUE, CHECKSUM -/

/-- R117, R118: the symbols give a value exactly when each has a nibble. -/
theorem decodeSymbols_eq_ok {c : Config} {g : BitVec 20} {v : BitVec 16} :
    decodeSymbols c g = .ok v ↔
      ∃ n0 n1 n2 n3, gcr c (g.extractLsb' 15 5) = some n0 ∧ gcr c (g.extractLsb' 10 5) = some n1 ∧
        gcr c (g.extractLsb' 5 5) = some n2 ∧ gcr c (g.extractLsb' 0 5) = some n3 ∧ n0 ++ n1 ++ n2 ++ n3 = v := by
  unfold decodeSymbols
  split
  next n0 n1 n2 n3 h0 h1 h2 h3 => simp [h0, h1, h2, h3]
  next hnone =>
    exact ⟨nofun, fun ⟨n0, n1, n2, n3, h0, h1, h2, h3, _⟩ => (hnone n0 n1 n2 n3 h0 h1 h2 h3).elim⟩

theorem checkValue_eq_ok {v : BitVec 16} {period : BitVec 12} :
    checkValue v = .ok period ↔ telemPeriod v = period ∧ telemCsum v = csum12 (telemPeriod v) := by
  unfold checkValue
  split <;> simp [*]

theorem telemPeriod_nibbles (n0 n1 n2 n3 : Nibble) : telemPeriod (n0 ++ n1 ++ n2 ++ n3) = n0 ++ n1 ++ n2 :=
  BitVec.extractLsb'_append_eq_left

theorem telemCsum_nibbles (n0 n1 n2 n3 : Nibble) : telemCsum (n0 ++ n1 ++ n2 ++ n3) = n3 :=
  BitVec.extractLsb'_append_eq_right

theorem toNat_nibbles (n0 n1 n2 : Nibble) :
    (n0 ++ n1 ++ n2).toNat = n0.toNat * 256 + n1.toNat * 16 + n2.toNat := by
  rw [toNat_append_eq_add, toNat_append_eq_add]
  omega

/-- R85: the checksum of three nibbles is their XOR. -/
theorem csum12_nibbles (n0 n1 n2 : Nibble) : csum12 (n0 ++ n1 ++ n2) = n0 ^^^ n1 ^^^ n2 := by
  have hhigh : (n0.toNat * 256 + n1.toNat * 16 + n2.toNat) / 256 % 16 = n0.toNat := by omega
  have hmid : (n0.toNat * 256 + n1.toNat * 16 + n2.toNat) / 16 % 16 = n1.toNat := by omega
  have hlow : (n0.toNat * 256 + n1.toNat * 16 + n2.toNat) % 16 = n2.toNat := by omega
  apply BitVec.eq_of_toNat_eq
  rw [csum12_toNat, toNat_nibbles, hhigh, hmid, hlow, BitVec.toNat_xor, BitVec.toNat_xor]

/-- R118, R119: a value of four nibbles gives the period of the first three when the fourth is their XOR. -/
theorem checkValue_nibbles {n0 n1 n2 n3 : Nibble} {period : BitVec 12} :
    checkValue (n0 ++ n1 ++ n2 ++ n3) = .ok period ↔
      period.toNat = n0.toNat * 256 + n1.toNat * 16 + n2.toNat ∧ n3 = n0 ^^^ n1 ^^^ n2 := by
  rw [checkValue_eq_ok, telemPeriod_nibbles, telemCsum_nibbles, csum12_nibbles, ← toNat_nibbles, BitVec.toNat_inj,
    eq_comm (a := period)]

/-! ### DECODE -/

/-- R115 to R119: the recovered bits give a period exactly when each step on them succeeds. -/
theorem decodeBits_eq_ok {c : Config} {bits : List Bool} {period : BitVec 12} :
    decodeBits c bits = .ok period ↔
      20 ≤ bits.length ∧ ∃ v, decodeSymbols c (assemble bits) = .ok v ∧ checkValue v = .ok period := by
  rw [decodeBits, telemMinBits_eq]
  split
  next hshort => simp [Nat.not_le.2 hshort]
  next hlen => cases decodeSymbols c (assemble bits) <;> simp [Nat.not_lt.1 hlen]

/-- R109, R120: a decode succeeds exactly when there are 2 edges and their bits give a period. -/
theorem decodeTelemetry_eq_ok {c : Config} {buf : List Nat} {n : Nat} {period : BitVec 12} :
    decodeTelemetry c buf n = .ok period ↔
      2 ≤ n ∧ ∃ bits, runs c buf n = .ok bits ∧ decodeBits c bits = .ok period := by
  rw [decodeTelemetry]
  split
  next hfew => simp [Nat.not_le.2 hfew]
  next hn => cases runs c buf n <;> simp [Nat.not_lt.1 hn]

/-- Settles O20: the steps of a decode that succeeds, with the value written as its four nibbles. -/
theorem decodedPeriodIsChecked : Obligations.DecodedPeriodIsChecked := by
  intro c buf n period
  rw [decodeTelemetry_eq_ok]
  refine and_congr_right fun _ => ⟨?_, ?_⟩
  · rintro ⟨bits, hruns, hbits⟩
    obtain ⟨hlen, v, hsymbols, hcheck⟩ := decodeBits_eq_ok.1 hbits
    obtain ⟨n0, n1, n2, n3, h0, h1, h2, h3, rfl⟩ := decodeSymbols_eq_ok.1 hsymbols
    exact ⟨bits, n0, n1, n2, n3, hruns, hlen, h0, h1, h2, h3, checkValue_nibbles.1 hcheck⟩
  · rintro ⟨bits, n0, n1, n2, n3, hruns, hlen, h0, h1, h2, h3, hperiod⟩
    have hsymbols := decodeSymbols_eq_ok.2 ⟨n0, n1, n2, n3, h0, h1, h2, h3, rfl⟩
    exact ⟨bits, hruns, decodeBits_eq_ok.2 ⟨hlen, _, hsymbols, checkValue_nibbles.2 hperiod⟩⟩

/-! ### RPM -/

/-- R121: the numerator is below `2 ^ 32`, so a quotient of it is kept whole. -/
theorem erpmOf_toNat {period : BitVec 12} (h : period ≠ 0#12) :
    (erpmOf period).toNat = 60000000 / period.toNat := by
  have hle : 60000000 / period.toNat ≤ 60000000 := Nat.div_le_self ..
  rw [erpmOf, if_neg h, BitVec.toNat_ofNat, erpmConst_eq, Nat.mod_eq_of_lt (by omega)]

/-- R121: twice the numerator is below `2 ^ 32` too. -/
theorem mrpmOf_toNat (c : Config) {period : BitVec 12} (h : period ≠ 0#12) :
    (mrpmOf c period).toNat = 60000000 / period.toNat * 2 / c.motorPoles := by
  have hle : 60000000 / period.toNat ≤ 60000000 := Nat.div_le_self ..
  have hle' : 60000000 / period.toNat * 2 / c.motorPoles ≤ 60000000 / period.toNat * 2 := Nat.div_le_self ..
  rw [mrpmOf, if_neg h, BitVec.toNat_ofNat, erpmConst_eq, Nat.mod_eq_of_lt (by omega)]

/-- Settles O26: the definition's two branches. -/
theorem rpmOfPeriod : Obligations.RpmOfPeriod := fun c _ =>
  ⟨fun h => ⟨if_pos h, if_pos h⟩, fun h => ⟨erpmOf_toNat h, mrpmOf_toNat c.val h⟩⟩

end Sys2Proof.Machine

/-! ## What the host operations, the periodic driver, the callbacks and the tick source do -/

namespace Sys2Proof.Machine

/-! ### The tick source -/

theorem exec_tick {k : Arg} (h : k ≠ 0#16) (s : State) :
    exec (.tick k) s = .next (s.answer (s.r.advanceTick s.cfg.val k) .nothing) := if_neg h

theorem exec_tick_zero (s : State) : exec (.tick 0#16) s = .refused (.reserved .tickZero) := rfl

theorem tickAdd_tickAdd (w a j k : Nat) : tickAdd w (tickAdd w a j) k = tickAdd w a (j + k) := by
  simp only [tickAdd, Nat.mod_add_mod, Nat.add_assoc]

/-- R142: after `n` unit ticks the counter has moved by `n`, and nothing else has. -/
theorem execTimes_unitTick (s : State) {n : Nat} (hn : 1 ≤ n) :
    execTimes (.tick 1#16) n s =
      .next (s.answer { s.r with tick := tickAdd s.cfg.val.tickWidth s.r.tick n } .nothing) := by
  induction n, hn using Nat.le_induction with
  | base => rfl
  | succ n _ ih =>
    rw [execTimes_succ_of_next ih, exec_tick (by decide), ← tickAdd_tickAdd]
    rfl

/-- Settles O45, by induction on the unit ticks: their additions modulo `2 ^ W` are one addition of `k`. -/
theorem tickIsRepeatedUnitTick : Obligations.TickIsRepeatedUnitTick := by
  intro s k hk
  have hpos : 1 ≤ k.toNat := by bv_omega
  rw [execTimes_unitTick s hpos, exec_tick hk]
  rfl

/-- Settles O44: TICK has no gate but that its operand is not 0. -/
theorem tickAdvancesCounter : Obligations.TickAdvancesCounter := by
  intro s k
  constructor
  · intro hk
    exact exec_tick hk s
  · rintro rfl
    exact ⟨_, exec_tick_zero s⟩

/-! ### The periodic driver -/

theorem exec_advance_of_ok {s : State} {r' : Engine} (hconf : s.r.configured = true)
    (h : s.r.advance s.cfg.val = .ok r') : exec .advance s = .next (s.answer r' .nothing) := by
  rw [exec_advance_of_configured hconf]
  exact State.conclude_next.2 ⟨r', h, rfl⟩

/-- Settles O46: Idle and Sending have no transition of ADVANCE, and a code above 4 is no state at all. -/
theorem advanceWaitsInIdleAndSending : Obligations.AdvanceWaitsInIdleAndSending := by
  intro s hconf
  constructor
  · intro hst
    exact exec_advance_of_ok hconf (Engine.advance_ok.2 (.inl ⟨hst, rfl⟩))
  · intro hreserved
    rw [exec_advance_of_configured hconf]
    exact State.conclude_fault.2 (Engine.advance_error.2 (.inl ⟨hreserved, rfl⟩))

/-- R35: the ticks since the mark are the difference modulo `2 ^ W`. -/
theorem Engine.elapsed_eq_mod {c : Config} {r : Engine} (htick : r.tick < 2 ^ c.tickWidth)
    (hmark : r.tMark < 2 ^ c.tickWidth) :
    r.elapsed c = (r.tick + 2 ^ c.tickWidth - r.tMark) % 2 ^ c.tickWidth := tickDelta_eq_mod hmark htick

/-- Settles O48: in Receiving ADVANCE only asks whether the target or the timeout is reached. -/
theorem advanceEndsCaptureOnTargetOrTimeout : Obligations.AdvanceEndsCaptureOnTargetOrTimeout := by
  intro s hconf hst htick hmark
  have hadvance : s.r.advance s.cfg.val = .ok (s.r.advanceReceiving s.cfg.val) :=
    Engine.advance_ok.2 (.inr (.inr (.inl ⟨hst, rfl⟩)))
  rw [exec_advance_of_ok hconf hadvance, Engine.advanceReceiving_eq, Engine.elapsed_eq_mod htick hmark, Engine.edges]
  split <;> rfl

/-- Settles O49: the captured edges lie in the buffer, so the decode step ends as its result says. -/
theorem advanceDecodesAndReturnsToIdle : Obligations.AdvanceDecodesAndReturnsToIdle := by
  intro s hconf hst hlen
  have hedges : s.r.edges s.cfg.val ≤ s.r.edgeBuf.length := hlen ▸ Nat.sub_le ..
  have hadvance {r' : Engine} (h : s.r.advanceDecoding s.cfg.val = .ok r') :
      exec .advance s = .next (s.answer r' .nothing) :=
    exec_advance_of_ok hconf (Engine.advance_ok.2 (.inr (.inr (.inr ⟨hst, h⟩))))
  constructor
  · intro period hdecoded
    exact hadvance (Engine.advanceDecoding_ok.2 ⟨hedges, .inl ⟨period, hdecoded, rfl⟩⟩)
  · intro reason hfailed
    exact hadvance (Engine.advanceDecoding_ok.2 ⟨hedges, .inr ⟨reason, hfailed, rfl⟩⟩)

/-- Settles O60: ADVANCE either completes or faults, and a sound block excludes each of its faults. -/
theorem advanceCompletesInEveryState : Obligations.AdvanceCompletesInEveryState := by
  intro s ⟨_, hsound⟩ hconf
  cases h : s.r.advance s.cfg.val with
  | ok r' => exact ⟨_, exec_advance_of_ok hconf h⟩
  | error f => exact absurd h ((hsound hconf).advance_ne_error f)

/-! ### The gate of INIT -/

/-- Settles O28: INIT asks whether the block is configured before it draws. -/
theorem secondInitIsRefused : Obligations.SecondInitIsRefused := fun _ hconf => if_pos hconf

theorem exec_init_of_unconfigured {s : State} (h : s.r.configured = false) :
    exec .init s = .next
      (s.spendInitDraw.answer (if s.initOk then s.r.initialised s.cfg.val else s.r) (.word (zextBool s.initOk))) :=
  if_neg (by simp [h])

/-- Settles O29: INIT, EDGE and TICK stand before no gate of R126, and each of the others stands before it. -/
theorem unconfiguredBlockRefuses : Obligations.UnconfiguredBlockRefuses := by
  intro s i hconf hwf
  cases i with
  | init => simp [exec_init_of_unconfigured hconf]
  | edge => simp [exec_edge, State.conclude_not_refused]
  | tick k => simp [exec_tick (wellFormed_tick.1 hwf)]
  | throttle | command | ready | getstate | gettelem | pollnew | advance | txslot | txdone | capfull =>
    exact iff_of_true (State.ifConfigured_of_unconfigured hconf) (by simp)

/-! ### The send requests -/

theorem exec_throttle_of_configured {s : State} (h : s.r.configured = true) (v : Arg) :
    exec (.throttle v) s = .next (s.answer (s.r.issue s.cfg.val v true) .nothing) :=
  State.ifConfigured_of_configured h

theorem exec_command_of_configured {s : State} (h : s.r.configured = true) (v : Arg) :
    exec (.command v) s = .next (s.answer (s.r.issue s.cfg.val v false) .nothing) :=
  State.ifConfigured_of_configured h

/-- Settles O31: both requests are ISSUE in Idle. -/
theorem sendRequestStartsFrame : Obligations.SendRequestStartsFrame := by
  intro s v hconf hidle
  rw [exec_throttle_of_configured hconf, exec_command_of_configured hconf, Engine.issue_idle hidle,
    Engine.issue_idle hidle]
  exact ⟨rfl, rfl⟩

/-- Settles O32: both requests are ISSUE outside Idle. -/
theorem busyRequestIsDropped : Obligations.BusyRequestIsDropped := by
  intro s v hconf hbusy
  rw [exec_throttle_of_configured hconf, exec_command_of_configured hconf, Engine.issue_busy hbusy,
    Engine.issue_busy hbusy]
  exact ⟨rfl, rfl⟩

/-! ### The queries -/

theorem zextBool_eq (b : Bool) : zextBool b = if b then 1#32 else 0#32 := by
  cases b <;> rfl

theorem zextState_eq (c : StateCode) : zextState c = BitVec.ofNat 32 c.toNat := (BitVec.ofNat_toNat 32 c).symm

theorem exec_ready_of_configured {s : State} (h : s.r.configured = true) :
    exec .ready s = .next (s.answer s.r (.word (zextBool (s.r.state == stIdle)))) :=
  State.ifConfigured_of_configured h

theorem exec_gettelem_of_configured {s : State} (h : s.r.configured = true) :
    exec .gettelem s = .next (s.answer s.r (.record s.r.record)) := State.ifConfigured_of_configured h

theorem exec_getstate_of_named {s : State} (h : s.r.configured = true) (hst : s.r.state.toNat ≤ 4) :
    exec .getstate s = .next (s.answer s.r (.word (zextState s.r.state))) :=
  (State.ifConfigured_of_configured h).trans (if_pos hst)

theorem exec_pollnew_of_configured {s : State} (h : s.r.configured = true) :
    exec .pollnew s = .next (s.answer s.r.clearNewData (.word (zextBool s.r.newData))) :=
  State.ifConfigured_of_configured h

/-- Settles O33: each query answers on the block state it found. -/
theorem queriesAnswerAndChangeNothing : Obligations.QueriesAnswerAndChangeNothing := by
  intro s hconf
  refine ⟨?_, exec_gettelem_of_configured hconf, fun hst => ?_⟩
  · rw [exec_ready_of_configured hconf, zextBool_eq]
    simp [State.answer]
  · rw [exec_getstate_of_named hconf hst, zextState_eq]
    rfl

/-- Settles O34: the flag that the first POLLNEW clears is the one that the second answers. -/
theorem pollnewReadsAndClears : Obligations.PollnewReadsAndClears := by
  intro s hconf
  refine ⟨_, exec_pollnew_of_configured hconf, ?_, exec_pollnew_of_configured hconf⟩
  rw [zextBool_eq]
  rfl

/-! ### The completion callbacks -/

theorem exec_txdone_of_pending {s : State} (hconf : s.r.configured = true) (hpending : s.r.txDonePending = true) :
    exec .txdone s =
      .next (s.answer (s.r.clearTxDone.handleEvent stSending Engine.enterAwaiting) .nothing) := by
  simp [exec, execTxdone, Engine.txDoneEnabled, hpending, State.ifEnabled_of_enabled hconf]

/-- R140: the handled transmit-complete event, in the state that it belongs to and in any other. -/
theorem Engine.handleTxDone_eq (r : Engine) :
    r.clearTxDone.handleEvent stSending Engine.enterAwaiting = { r with
      txDonePending := false
      state := if r.state = stSending then stAwaiting else r.state
      tMark := if r.state = stSending then r.tick else r.tMark } := by
  by_cases hst : r.state = stSending
  · rw [if_pos hst, if_pos hst]
    exact Engine.handleEvent_owner (r := r.clearTxDone) hst
  · rw [if_neg hst, if_neg hst]
    exact Engine.handleEvent_stale (r := r.clearTxDone) hst

/-- R141: the handled buffer-full event, in the state that it belongs to and in any other. -/
theorem Engine.handleCapFull_eq (r : Engine) :
    r.clearCapFull.handleEvent stReceiving Engine.enterDecoding = { r with
      capFullPending := false
      state := if r.state = stReceiving then stDecoding else r.state
      capArmed := if r.state = stReceiving then false else r.capArmed } := by
  by_cases hst : r.state = stReceiving
  · rw [if_pos hst, if_pos hst]
    exact Engine.handleEvent_owner (r := r.clearCapFull) hst
  · rw [if_neg hst, if_neg hst]
    exact Engine.handleEvent_stale (r := r.clearCapFull) hst

/-- Settles O38, from the handled event, owned or stale. -/
theorem txdoneHandlesTransmitComplete : Obligations.TxdoneHandlesTransmitComplete := by
  intro s hconf hpending
  rw [exec_txdone_of_pending hconf hpending, Engine.handleTxDone_eq]
  rfl

/-- Settles O39, from the handled event, owned or stale. -/
theorem capfullHandlesBufferFull : Obligations.CapfullHandlesBufferFull := by
  intro s hconf hpending
  rw [exec_capfull_of_pending hconf hpending, Engine.handleCapFull_eq]
  rfl

end Sys2Proof.Machine

/-! ## Why a decode fails -/

namespace Sys2Proof.Machine

/-! ### RUNS -/

/-- R112: rounding a delta fails in Reject mode only, and for one reason. -/
theorem roundRun_error {c : Config} {d : Nat} {e : DecodeFail} (h : roundRun c d = .error e) : e = .gapTooLong := by
  simp only [roundRun] at h
  split at h
  · cases h
  · split at h
    · cases h
    · exact (Except.error.inj h).symm

/-- R114: the loop fails where the rounding of one of its deltas does. -/
theorem runsFrom_error {c : Config} {bits : List Bool} {level : Bool} {prev : Nat} {rest : List Nat} {e : DecodeFail}
    (h : runsFrom c bits level prev rest = .error e) : e = .gapTooLong := by
  induction rest generalizing bits level prev with
  | nil => cases h
  | cons next rest ih =>
    cases hround : roundRun c (tickDelta c.tickWidth prev next) with
    | error e' =>
      rw [runsFrom_cons_of_error hround] at h
      exact Except.error.inj h ▸ roundRun_error hround
    | ok k =>
      rw [runsFrom_cons_of_round hround] at h
      split at h
      · cases h
      · exact ih h

theorem runs_error {c : Config} {buf : List Nat} {n : Nat} {e : DecodeFail} (h : runs c buf n = .error e) :
    e = .gapTooLong := by
  cases hbuf : buf.take n with
  | nil =>
    rw [runs_of_take_eq_nil hbuf] at h
    cases h
  | cons first rest =>
    rw [runs_of_take_eq_cons hbuf] at h
    exact runsFrom_error h

/-! ### SYMBOLS, CHECKSUM -/

/-- R117: one symbol without a nibble is enough for the symbols to give no value. -/
theorem decodeSymbols_of_gcr_none {c : Config} {g : BitVec 20}
    (h : ∃ j ∈ [15, 10, 5, 0], gcr c (g.extractLsb' j 5) = none) : decodeSymbols c g = .error .invalidSymbol := by
  unfold decodeSymbols
  split
  next n0 n1 n2 n3 h0 h1 h2 h3 => simp [h0, h1, h2, h3] at h
  next => rfl

/-- R119: a fourth nibble that is not the XOR of the others. -/
theorem checkValue_nibbles_mismatch {n0 n1 n2 n3 : Nibble} (h : n3 ≠ n0 ^^^ n1 ^^^ n2) :
    checkValue (n0 ++ n1 ++ n2 ++ n3) = .error .checksumMismatch := by
  rw [checkValue, telemPeriod_nibbles, telemCsum_nibbles, csum12_nibbles, if_neg h]

/-! ### The bits and the whole decode -/

theorem decodeBits_of_short {c : Config} {bits : List Bool} (h : bits.length < 20) :
    decodeBits c bits = .error .insufficientBits := if_pos h

/-- R117 to R119: 20 bits are enough for the symbols to be looked up, and these decide. -/
theorem decodeBits_of_le {c : Config} {bits : List Bool} (h : 20 ≤ bits.length) :
    decodeBits c bits = (decodeSymbols c (assemble bits)).bind checkValue := by
  rw [decodeBits, telemMinBits_eq, if_neg (Nat.not_lt.2 h)]
  cases decodeSymbols c (assemble bits) <;> rfl

theorem decodeTelemetry_of_few_edges {c : Config} {buf : List Nat} {n : Nat} (h : n < 2) :
    decodeTelemetry c buf n = .error .insufficientEdges := if_pos h

/-- R109, R120: 2 edges are enough for the runs to be recovered, and these decide. -/
theorem decodeTelemetry_of_le {c : Config} {buf : List Nat} {n : Nat} (h : 2 ≤ n) :
    decodeTelemetry c buf n = (runs c buf n).bind (decodeBits c) := by
  rw [decodeTelemetry, if_neg (Nat.not_lt.2 h)]
  cases runs c buf n <;> rfl

theorem decodeTelemetry_of_runs {c : Config} {buf : List Nat} {n : Nat} {bits : List Bool} (h : 2 ≤ n)
    (hruns : runs c buf n = .ok bits) : decodeTelemetry c buf n = decodeBits c bits := by
  rw [decodeTelemetry_of_le h, hruns]
  rfl

/-- Settles O22: each clause passes the steps before the one that fails, whose reason ends the decode. -/
theorem decodeFailsWithFirstReason : Obligations.DecodeFailsWithFirstReason := by
  intro c buf n
  refine ⟨decodeTelemetry_of_few_edges, fun hn e hruns => ?_, fun hn bits hruns hshort => ?_,
    fun hn bits hruns hlen hinvalid => ?_, fun hn bits n0 n1 n2 n3 hruns hlen h0 h1 h2 h3 hcsum => ?_⟩
  · obtain rfl := runs_error hruns
    exact ⟨rfl, by rw [decodeTelemetry_of_le hn, hruns]; rfl⟩
  · exact (decodeTelemetry_of_runs hn hruns).trans (decodeBits_of_short hshort)
  · rw [decodeTelemetry_of_runs hn hruns, decodeBits_of_le hlen, decodeSymbols_of_gcr_none hinvalid]
    rfl
  · have hsymbols := decodeSymbols_eq_ok.2 ⟨n0, n1, n2, n3, h0, h1, h2, h3, rfl⟩
    rw [decodeTelemetry_of_runs hn hruns, decodeBits_of_le hlen, hsymbols]
    exact checkValue_nibbles_mismatch hcsum

end Sys2Proof.Machine

/-! ## Power-on and INIT -/

namespace Sys2Proof.Machine

/-! ### The values at power-on and after INIT -/

/-- Settles O58: the model's power-on block is the block that INIT leaves, with the configured flag at 0. -/
theorem invariantHoldsAtReset : Obligations.InvariantHoldsAtReset := by
  have hsound : State.reset.r.Sound platform.val := State.reset.r.initialised_sound platform.property
  exact ⟨⟨Nat.two_pow_pos _, fun _ => hsound⟩, rfl, hsound⟩

/-- Settles O27: what INIT writes is one case on the draw. -/
theorem initWritesResetValues : Obligations.InitWritesResetValues := by
  intro s hconf
  refine ⟨_, exec_init_of_unconfigured hconf, s.spendInitDraw_cfg, s.spendInitDraw_stimuli, fun hok => ?_,
    fun hfailed => ?_⟩
  · rw [hok]
    exact ⟨rfl, rfl⟩
  · rw [hfailed]
    exact ⟨rfl, rfl⟩

/-! ### Two machines that differ in their power-on values only -/

/-- The two block states differ in unspecified power-on values at most (R164): they agree on the flag and the tick, and
once configured, when INIT has written the other fields, on those too (R165). -/
structure Engine.AlikeButPowerOn (r r' : Engine) : Prop where
  configured : r.configured = r'.configured
  tick : r.tick = r'.tick
  erased : r.configured = true → r = r'

theorem Engine.alikeButPowerOn_of_unconfigured {r r' : Engine} (hr : r.configured = false)
    (hr' : r'.configured = false) (htick : r.tick = r'.tick) : r.AlikeButPowerOn r' :=
  ⟨hr.trans hr'.symm, htick, fun hconf => absurd hconf (by simp [hr])⟩

/-- R165: of the block before it, INIT keeps the tick only. -/
theorem Engine.initialised_eq_of_tick (c : Config) {r r' : Engine} (h : r.tick = r'.tick) :
    r.initialised c = r'.initialised c := by
  simp only [Engine.initialised, h]

theorem Engine.AlikeButPowerOn.initialised (c : Config) {r r' : Engine} (h : r.AlikeButPowerOn r') :
    (r.initialised c).AlikeButPowerOn (r'.initialised c) :=
  ⟨rfl, h.tick, fun _ => Engine.initialised_eq_of_tick c h.tick⟩

theorem Engine.AlikeButPowerOn.advanceTick (c : Config) (k : Arg) {r r' : Engine} (h : r.AlikeButPowerOn r') :
    (r.advanceTick c k).AlikeButPowerOn (r'.advanceTick c k) where
  configured := h.configured
  tick := congrArg (tickAdd c.tickWidth · k.toNat) h.tick
  erased hconf := congrArg (Engine.advanceTick c k) (h.erased hconf)

/-- The two machines agree on all that is not the block state and not the last response. -/
structure State.SameSurroundings (s t : State) : Prop where
  cfg : s.cfg = t.cfg
  stimuli : s.stimuli = t.stimuli
  initAnswers : s.initAnswers = t.initAnswers
  initDraws : s.initDraws = t.initDraws

/-- The draw of `INIT_OK` and its spending read the platform's answers only (R11). -/
theorem State.SameSurroundings.initOk {s t : State} (h : s.SameSurroundings t) : s.initOk = t.initOk := by
  simp only [State.initOk, h.initAnswers, h.initDraws]

theorem State.SameSurroundings.spendInitDraw {s t : State} (h : s.SameSurroundings t) :
    s.spendInitDraw.SameSurroundings t.spendInitDraw := by
  obtain ⟨hcfg, hstim, hans, hdraws⟩ := h
  unfold State.spendInitDraw
  rw [← hans]
  cases hlist : s.initAnswers with
  | nil => exact ⟨hcfg, hstim, rfl, congrArg (· + 1) hdraws⟩
  | cons b rest => exact ⟨hcfg, hstim, rfl, hdraws⟩

/-- Two outcomes that no observer tells apart: refused for one reason, or completed with one response in machines that
differ in power-on values only. A fault is alike to nothing. -/
inductive AnsweredAlike : Host.Outcome State Fault Refusal → Host.Outcome State Fault Refusal → Prop where
  | refused (why : Refusal) : AnsweredAlike (.refused why) (.refused why)
  | next {s t : State} (hsur : s.SameSurroundings t) (hr : s.r.AlikeButPowerOn t.r)
      (hresp : s.response = t.response) : AnsweredAlike (.next s) (.next t)

theorem AnsweredAlike.answer {s t : State} {r r' : Engine} (hsur : s.SameSurroundings t) (hr : r.AlikeButPowerOn r')
    (resp : Response) : AnsweredAlike (.next (s.answer r resp)) (.next (t.answer r' resp)) :=
  .next ⟨hsur.cfg, hsur.stimuli, hsur.initAnswers, hsur.initDraws⟩ hr rfl

section
variable {o o' : Host.Outcome State Fault Refusal}

theorem AnsweredAlike.of_refused {why : Refusal} (h : o = .refused why) (h' : o' = .refused why) :
    AnsweredAlike o o' := h ▸ h' ▸ .refused why

theorem AnsweredAlike.refused_iff (h : AnsweredAlike o o') (why : Refusal) : o = .refused why ↔ o' = .refused why := by
  cases h <;> simp

theorem AnsweredAlike.next_iff (h : AnsweredAlike o o') : (∃ s, o = .next s) ↔ (∃ t, o' = .next t) := by
  cases h <;> simp

theorem AnsweredAlike.noFault (h : AnsweredAlike o o') : NoFault o ∧ NoFault o' := by
  cases h <;> exact ⟨nofun, nofun⟩

end

/-- Once the block is configured, nothing is left in which the two machines could differ. -/
theorem State.eq_of_alike {s t : State} (hsur : s.SameSurroundings t) (hr : s.r.AlikeButPowerOn t.r)
    (hresp : s.response = t.response) (hconf : s.r.configured = true) : s = t := by
  have hblock := hr.erased hconf
  obtain ⟨hcfg, hstim, hans, hdraws⟩ := hsur
  cases s; cases t
  rw [State.mk.injEq]
  exact ⟨hcfg, hblock, hstim, hans, hdraws, hresp⟩

/-! ### What an unconfigured block makes of a stimulus -/

/-- R102, R126: before INIT the capture is closed, whatever its fields hold, and every edge is lost. -/
theorem exec_edge_of_unconfigured {s : State} (h : s.r.configured = false) :
    exec .edge s = .next (s.answer s.r .nothing) := by
  have hclosed : s.r.captureOpen = false := by simp [Engine.captureOpen, h]
  exact State.conclude_next.2 ⟨s.r, Engine.edge_ok.2 (.inr ⟨hclosed, rfl⟩), rfl⟩

/-- R164: no stimulus tells two unconfigured machines apart by their power-on values. -/
theorem exec_answeredAlike {s t : State} (hs : s.r.configured = false) (ht : t.r.configured = false)
    (hsur : s.SameSurroundings t) (htick : s.r.tick = t.r.tick) (i : Instr) :
    AnsweredAlike (exec i s) (exec i t) := by
  have hr := Engine.alikeButPowerOn_of_unconfigured hs ht htick
  cases i with
  | init =>
    rw [exec_init_of_unconfigured hs, exec_init_of_unconfigured ht, hsur.initOk, hsur.cfg]
    cases t.initOk with
    | true => exact .answer hsur.spendInitDraw (hr.initialised t.cfg.val) _
    | false => exact .answer hsur.spendInitDraw hr _
  | edge =>
    rw [exec_edge_of_unconfigured hs, exec_edge_of_unconfigured ht]
    exact .answer hsur hr _
  | tick k =>
    by_cases hk : k = 0#16
    · subst hk
      exact .of_refused (exec_tick_zero s) (exec_tick_zero t)
    · rw [exec_tick hk, exec_tick hk, hsur.cfg]
      exact .answer hsur (hr.advanceTick t.cfg.val k) _
  | throttle | command | ready | getstate | gettelem | pollnew | advance | txslot | txdone | capfull =>
    exact .of_refused (State.ifConfigured_of_unconfigured hs) (State.ifConfigured_of_unconfigured ht)

/-- Settles O30: the two outcomes are alike, and from that follows each of the clauses. -/
theorem powerOnValuesCannotBeSeen : Obligations.PowerOnValuesCannotBeSeen := by
  intro s t i hs ht htick hcfg hstim hans hdraws
  have halike := exec_answeredAlike hs ht ⟨hcfg, hstim, hans, hdraws⟩ htick i
  obtain ⟨hnofault, hnofault'⟩ := halike.noFault
  refine ⟨halike.refused_iff, halike.next_iff, hnofault, hnofault', fun s' t' hs' ht' => ?_⟩
  rw [hs', ht'] at halike
  obtain _ | ⟨hsur, hr, hresp⟩ := halike
  exact ⟨hresp, hr.configured, hr.tick, hsur.cfg, hsur.stimuli, hsur.initAnswers, hsur.initDraws,
    State.eq_of_alike hsur hr hresp⟩

end Sys2Proof.Machine
